-- ==== Sys2Proof/Word.lean ====
section
/-! DEFINITION. The widths of the block's words (`30_encoding.md` R70, R75; `00_scope.md` R14, R15). -/

namespace Sys2Proof

/-- A byte is 8 bits (R15). -/
abbrev Byte := BitVec 8

/-- A command word: 24 bits (R70). -/
abbrev CmdWord := BitVec 24

/-- A response word: 16 bits (R75). -/
abbrev RespWord := BitVec 16

/-- A channel register: 7 bits, unsigned (R21). -/
abbrev ChanVal := BitVec 7

/-- A packed channel field: 11 bits, unsigned (R8, R152). -/
abbrev WireVal := BitVec 11

end Sys2Proof
end

