-- ==== Sys2Proof/Config.lean ====
section
/-! DEFINITION. The protocol constants (`00_scope.md` R8, R9), the instance parameters (R9 to R12; U8) and the closed
enumeration of packet types (`30_encoding.md` R85, R86). Nothing here is state: a value of `Params` is fixed before reset
is released and no command changes it (R20, R262). -/

namespace Sys2Proof
namespace Config

/-- `SYNC` (R8). -/
def sync : Byte := 0xC8#8
/-- `MIN_FRAME`, the smallest legal total frame length in bytes (R8). -/
def minFrame : Nat := 4
/-- `MAX_FRAME`, the largest legal total frame length in bytes (R8). -/
def maxFrame : Nat := 64
/-- `CRC_POLY` (R8). -/
def crcPoly : Byte := 0xD5#8
/-- `CRC_INIT` (R8). -/
def crcInit : Byte := 0x00#8
/-- `N_CH`, the number of channels (R8). -/
def nCh : Nat := 16
/-- `CH_BITS`, the bits of a packed channel (R8). -/
def chBits : Nat := 11
/-- `PAYLOAD_LEN`, in bytes (R8). -/
def payloadLen : Nat := 22
/-- `RC_TYPE`, the tag of RC_CHANNELS_PACKED (R8). -/
def rcType : Byte := 0x16#8
/-- `RC_LEN_FIELD = PAYLOAD_LEN + 2` (R8). -/
def rcLenField : Byte := 0x18#8
/-- `RC_FRAME_LEN`, in bytes (R8). -/
def rcFrameLen : Nat := 26
/-- `STICK_MINIMUM` (R9). DESIGN CHOICE, `notes/assumptions/22.md`: a constant, as R9 and R159 (e) call it, where
`93_implementation_defined.md` U8 lists it among the parameters. -/
def stickMinimum : Nat := 0
/-- `STICK_MAXIMUM` (R9). DESIGN CHOICE: a constant, `notes/assumptions/22.md`. -/
def stickMaximum : Nat := 100

/-- The parameters of one built block (R9 to R12). A model "takes it as an argument" (R11): State carries them, so a
claim about every state is a claim about every build. -/
structure Params where
  /-- `STICK_CENTER` (R9). -/
  stickCenter : ChanVal
  /-- `THROTTLE_CH`, OPEN in the spec (R11). -/
  throttleCh : Nat
  /-- `RC_MIN` (R10). -/
  rcMin : Nat
  /-- `RC_MAX` (R10). -/
  rcMax : Nat
  /-- `RXBUF_CAP`, the capacity of the receive buffer in bytes (R12). -/
  rxbufCap : Nat
  /-- `HAS_TLMX`, whether the annex unit is present (R12). -/
  hasTlmx : Bool
  deriving DecidableEq, Repr

/-- The constraints the spec puts on the parameters (R9, R10, R11, R12). -/
abbrev Params.legal (p : Params) : Prop :=
  stickMinimum ≤ p.stickCenter.toNat ∧ p.stickCenter.toNat ≤ stickMaximum ∧ p.throttleCh ≤ 3 ∧
    p.rcMin ≤ p.rcMax ∧ p.rcMax ≤ 2047 ∧ 64 ≤ p.rxbufCap

/-- The spec's default parameters (R9 to R12). PRESUMED: `THROTTLE_CH = 2` is the spec's suggestion from general
knowledge (G1); the spec leaves the parameter OPEN. Unsafe, `notes/assumptions/2.md`. -/
def Params.defaults : Params :=
  { stickCenter := 50#7, throttleCh := 2, rcMin := 7, rcMax := 1976, rxbufCap := 128, hasTlmx := false }

/-- The build whose reset state is `State.reset`: the defaults, with the annex unit present (R6: "a model that wants
the annex instantiates parameter `HAS_TLMX`"). DESIGN CHOICE, safe: `notes/assumptions/1.md`. -/
def Params.built : Params := { Params.defaults with hasTlmx := true }

/-- The fifteen named packet types, in the order of R85's table. -/
inductive PacketType where
  | gps | vario | batterySensor | baroAlt | heartbeat | videoTransmitter | linkStatistics | rcChannelsPacked
  | attitude | flightMode | deviceInfo | configRead | configWrite | command | radioId
  deriving DecidableEq, Repr

end Config
end Sys2Proof
end

