-- ==== Sys2Proof/Syntax.lean ====
section
/-! DEFINITION. The instructions: one constructor per row of `opcode_table.json`. Thirteen rows are command words
(`30_encoding.md` R70 to R73); fifteen are the packet types by which the annex unit dispatches a frame (R85;
`45_telemetry.md` R200). -/

namespace Sys2Proof

/-- A CRSF frame without its type byte: `[sync, length, type, ...payload, crc]` (R79). The type byte is the opcode and
stands in the constructor of `Instr`. -/
structure Frame where
  /-- Frame byte 0 (R82). -/
  sync : Byte
  /-- Frame byte 1 (R80). -/
  len : Byte
  /-- Frame bytes 3 to `length` (R79). -/
  payload : List Byte
  /-- Frame byte `length + 1` (R81). -/
  crc : Byte
  deriving DecidableEq, Repr

/-- The bytes of a frame in wire order, index 0 first (R50, R79), for the type byte `t`. -/
def Frame.bytes (t : Byte) (f : Frame) : List Byte :=
  [f.sync, f.len, t] ++ f.payload ++ [f.crc]

/-- The instructions. A command's operands are its `a` and `b` bytes as they stand in the word (R70, R73); an index out
of range is representable, because such a word is legal and answers E_OPERAND (R74, R234). A packet type's operand is the
rest of its frame. -/
inductive Instr where
  /-- No operation (R185). -/
  | nop
  /-- Read register `a` (R186). -/
  | rdreg (a : Byte)
  /-- Clear the flags of mask `b` (R188). -/
  | stclr (b : Byte)
  /-- Soft reset (R189). -/
  | srst
  /-- Clear the CRC accumulator (R104). -/
  | crcclr
  /-- Step the CRC accumulator by byte `b` (R105). -/
  | crcb (b : Byte)
  /-- Append byte `b` to the receive buffer (R121, R122). -/
  | rxpush (b : Byte)
  /-- Run the synchronizer's transition loop (R125). -/
  | rxeval
  /-- Set channel `a` to the signed value `b` (R150, R151). -/
  | chset (a b : Byte)
  /-- Map and pack the channels into the payload registers (R156). -/
  | txpack
  /-- Set payload register `a` to `b` (R174). -/
  | pldset (a b : Byte)
  /-- Wrap the payload registers and transmit (R175). -/
  | txwrap
  /-- Pack, wrap and transmit as one command (R176). -/
  | txsend
  /-- Annex: a GPS frame, type 0x02 (R203). -/
  | gps (f : Frame)
  /-- Annex: a VARIO frame, type 0x07 (R204). -/
  | vario (f : Frame)
  /-- Annex: a BATTERY_SENSOR frame, type 0x08 (R208). -/
  | batterySensor (f : Frame)
  /-- Annex: a BARO_ALT frame, type 0x09 (R206). -/
  | baroAlt (f : Frame)
  /-- Annex: a HEARTBEAT frame, type 0x0B (R209). -/
  | heartbeat (f : Frame)
  /-- Annex: a VIDEO_TRANSMITTER frame, type 0x0F (R209). -/
  | videoTransmitter (f : Frame)
  /-- Annex: a LINK_STATISTICS frame, type 0x14 (R207). -/
  | linkStatistics (f : Frame)
  /-- Annex: an RC_CHANNELS_PACKED frame received, type 0x16 (R209). -/
  | rcChannelsPacked (f : Frame)
  /-- Annex: an ATTITUDE frame, type 0x1E (R205). -/
  | attitude (f : Frame)
  /-- Annex: a FLIGHT_MODE frame, type 0x21 (R209). -/
  | flightMode (f : Frame)
  /-- Annex: a DEVICE_INFO frame, type 0x29 (R209). -/
  | deviceInfo (f : Frame)
  /-- Annex: a CONFIG_READ frame, type 0x2C (R209). -/
  | configRead (f : Frame)
  /-- Annex: a CONFIG_WRITE frame, type 0x2D (R209). -/
  | configWrite (f : Frame)
  /-- Annex: a COMMAND frame, type 0x32 (R209). -/
  | command (f : Frame)
  /-- Annex: a RADIO_ID frame, type 0x3A (R209). -/
  | radioId (f : Frame)
  deriving DecidableEq, Repr

end Sys2Proof
end

