-- ==== Sys2Proof/Decode.lean ====
section
/-! DEFINITION. Decoding and encoding: the 24-bit command word (`30_encoding.md` R70 to R74) and the frame by its type
byte (R79, R85, R86). Decoding is total and rejects by name. The encoder follows it, then the opcode table as data. -/

namespace Sys2Proof

open Config

/-- What the decoder reads: a word on the command port, or a whole frame at the annex unit's input. -/
inductive Encoded where
  /-- A command word (R70). -/
  | word (w : CmdWord)
  /-- The bytes of a frame, sync byte first (R50). -/
  | frame (F : List Byte)
  deriving DecidableEq, Repr

/-- Why the decoder rejects. -/
inductive DecodeError where
  /-- `op` is none of the thirteen opcodes (R72, R74). -/
  | undefinedOp (op : Byte)
  /-- A field the format requires to be 0x00 is not (R71, R74). -/
  | nonZeroField
  /-- A type byte outside the fifteen named ones (R86): not an error for the machine, the frame is consumed (R210). -/
  | unknownType (t : Byte)
  /-- Fewer than four bytes are no frame (R80); the validator forwards none. -/
  | noFrame
  deriving DecidableEq, Repr

/-- The tag of a packet type (R85). -/
def packetTag : PacketType → Byte
  | .gps => 0x02#8
  | .vario => 0x07#8
  | .batterySensor => 0x08#8
  | .baroAlt => 0x09#8
  | .heartbeat => 0x0B#8
  | .videoTransmitter => 0x0F#8
  | .linkStatistics => 0x14#8
  | .rcChannelsPacked => 0x16#8
  | .attitude => 0x1E#8
  | .flightMode => 0x21#8
  | .deviceInfo => 0x29#8
  | .configRead => 0x2C#8
  | .configWrite => 0x2D#8
  | .command => 0x32#8
  | .radioId => 0x3A#8

/-- The fifteen named packet types (R85). -/
def packetTypes : List PacketType :=
  [.gps, .vario, .batterySensor, .baroAlt, .heartbeat, .videoTransmitter, .linkStatistics, .rcChannelsPacked,
   .attitude, .flightMode, .deviceInfo, .configRead, .configWrite, .command, .radioId]

/-- The packet type a byte names, if it is one of the fifteen (R85, R86). -/
def packetOfTag (t : Byte) : Option PacketType := packetTypes.find? fun p => packetTag p == t

/-- The instruction that stands for a frame of packet type `p`. -/
def packetInstr : PacketType → Frame → Instr
  | .gps, f => .gps f
  | .vario, f => .vario f
  | .batterySensor, f => .batterySensor f
  | .baroAlt, f => .baroAlt f
  | .heartbeat, f => .heartbeat f
  | .videoTransmitter, f => .videoTransmitter f
  | .linkStatistics, f => .linkStatistics f
  | .rcChannelsPacked, f => .rcChannelsPacked f
  | .attitude, f => .attitude f
  | .flightMode, f => .flightMode f
  | .deviceInfo, f => .deviceInfo f
  | .configRead, f => .configRead f
  | .configWrite, f => .configWrite f
  | .command, f => .command f
  | .radioId, f => .radioId f

/-- The packet type and frame of an instruction that stands for a frame; none for a command. -/
def packetOf : Instr → Option (PacketType × Frame)
  | .nop | .rdreg _ | .stclr _ | .srst | .crcclr | .crcb _ | .rxpush _ | .rxeval | .chset _ _ | .txpack
  | .pldset _ _ | .txwrap | .txsend => none
  | .gps f => some (.gps, f)
  | .vario f => some (.vario, f)
  | .batterySensor f => some (.batterySensor, f)
  | .baroAlt f => some (.baroAlt, f)
  | .heartbeat f => some (.heartbeat, f)
  | .videoTransmitter f => some (.videoTransmitter, f)
  | .linkStatistics f => some (.linkStatistics, f)
  | .rcChannelsPacked f => some (.rcChannelsPacked, f)
  | .attitude f => some (.attitude, f)
  | .flightMode f => some (.flightMode, f)
  | .deviceInfo f => some (.deviceInfo, f)
  | .configRead f => some (.configRead, f)
  | .configWrite f => some (.configWrite, f)
  | .command f => some (.command, f)
  | .radioId f => some (.radioId, f)

/-- `op = cmd[23:16]` (R70). -/
def opField (w : CmdWord) : Byte := w.extractLsb' 16 8
/-- `a = cmd[15:8]` (R70). -/
def aField (w : CmdWord) : Byte := w.extractLsb' 8 8
/-- `b = cmd[7:0]` (R70). -/
def bField (w : CmdWord) : Byte := w.extractLsb' 0 8

/-- Format N: `a` and `b` must both be 0x00 (R71). -/
def formatN (w : CmdWord) (i : Instr) : Except DecodeError Instr :=
  if aField w = 0#8 ∧ bField w = 0#8 then .ok i else .error .nonZeroField

/-- Format B: `a` must be 0x00 (R71). -/
def formatB (w : CmdWord) (k : Byte → Instr) : Except DecodeError Instr :=
  if aField w = 0#8 then .ok (k (bField w)) else .error .nonZeroField

/-- Format A: `b` must be 0x00 (R71). -/
def formatA (w : CmdWord) (k : Byte → Instr) : Except DecodeError Instr :=
  if bField w = 0#8 then .ok (k (aField w)) else .error .nonZeroField

/-- Format AB: both fields are used (R71). -/
def formatAB (w : CmdWord) (k : Byte → Byte → Instr) : Except DecodeError Instr :=
  .ok (k (aField w) (bField w))

/-- The command a 24-bit word stands for (R72). The whole `op` byte is matched. -/
def decodeWord (w : CmdWord) : Except DecodeError Instr :=
  if opField w = 0x00#8 then formatN w .nop
  else if opField w = 0x01#8 then formatA w .rdreg
  else if opField w = 0x02#8 then formatB w .stclr
  else if opField w = 0x03#8 then formatN w .srst
  else if opField w = 0x10#8 then formatN w .crcclr
  else if opField w = 0x11#8 then formatB w .crcb
  else if opField w = 0x20#8 then formatB w .rxpush
  else if opField w = 0x21#8 then formatN w .rxeval
  else if opField w = 0x30#8 then formatAB w .chset
  else if opField w = 0x31#8 then formatN w .txpack
  else if opField w = 0x32#8 then formatAB w .pldset
  else if opField w = 0x33#8 then formatN w .txwrap
  else if opField w = 0x34#8 then formatN w .txsend
  else .error (.undefinedOp (opField w))

/-- The instruction a frame stands for, by its type byte alone (R200: "exhaustive match on the type"). The frame's end is
the end of the list; sync, length and CRC bytes are carried, not tested (R129, R132). -/
def decodeFrame : List Byte → Except DecodeError Instr
  | sync :: len :: t :: b :: rest =>
    match packetOfTag t with
    | some p => .ok (packetInstr p ⟨sync, len, (b :: rest).dropLast, (b :: rest).getLast (by simp)⟩)
    | none => .error (.unknownType t)
  | _ => .error .noFrame

/-- The decoder: total on any input. -/
def decode : Encoded → Except DecodeError Instr
  | .word w => decodeWord w
  | .frame F => decodeFrame F

/-- The word with the fields `op`, `a`, `b` (R70; R54: the hexadecimal reading of the 24-bit value). -/
def mkWord (op a b : Byte) : CmdWord := (op ++ a) ++ b

/-- The encoder (R71, R72, R79, R85). -/
def encode : Instr → Encoded
  | .nop => .word (mkWord 0x00#8 0#8 0#8)
  | .rdreg a => .word (mkWord 0x01#8 a 0#8)
  | .stclr b => .word (mkWord 0x02#8 0#8 b)
  | .srst => .word (mkWord 0x03#8 0#8 0#8)
  | .crcclr => .word (mkWord 0x10#8 0#8 0#8)
  | .crcb b => .word (mkWord 0x11#8 0#8 b)
  | .rxpush b => .word (mkWord 0x20#8 0#8 b)
  | .rxeval => .word (mkWord 0x21#8 0#8 0#8)
  | .chset a b => .word (mkWord 0x30#8 a b)
  | .txpack => .word (mkWord 0x31#8 0#8 0#8)
  | .pldset a b => .word (mkWord 0x32#8 a b)
  | .txwrap => .word (mkWord 0x33#8 0#8 0#8)
  | .txsend => .word (mkWord 0x34#8 0#8 0#8)
  | .gps f => .frame (f.bytes 0x02#8)
  | .vario f => .frame (f.bytes 0x07#8)
  | .batterySensor f => .frame (f.bytes 0x08#8)
  | .baroAlt f => .frame (f.bytes 0x09#8)
  | .heartbeat f => .frame (f.bytes 0x0B#8)
  | .videoTransmitter f => .frame (f.bytes 0x0F#8)
  | .linkStatistics f => .frame (f.bytes 0x14#8)
  | .rcChannelsPacked f => .frame (f.bytes 0x16#8)
  | .attitude f => .frame (f.bytes 0x1E#8)
  | .flightMode f => .frame (f.bytes 0x21#8)
  | .deviceInfo f => .frame (f.bytes 0x29#8)
  | .configRead f => .frame (f.bytes 0x2C#8)
  | .configWrite f => .frame (f.bytes 0x2D#8)
  | .command f => .frame (f.bytes 0x32#8)
  | .radioId f => .frame (f.bytes 0x3A#8)

/-- A row of `opcode_table.json`: the bits of `mask` must equal those of `value`. -/
structure OpcodeRow where
  mnemonic : String
  value : CmdWord
  mask : CmdWord
  deriving DecidableEq, Repr

/-- Whether a word falls under a row. -/
def OpcodeRow.covers (r : OpcodeRow) (w : CmdWord) : Bool := w &&& r.mask == r.value

/-- The thirteen command rows of `opcode_table.json`, as it writes them. -/
def opcodeTable : List OpcodeRow :=
  [⟨"NOP", 0x000000#24, 0xFFFFFF#24⟩, ⟨"RDREG", 0x010000#24, 0xFF00FF#24⟩, ⟨"STCLR", 0x020000#24, 0xFFFF00#24⟩,
   ⟨"SRST", 0x030000#24, 0xFFFFFF#24⟩, ⟨"CRCCLR", 0x100000#24, 0xFFFFFF#24⟩, ⟨"CRCB", 0x110000#24, 0xFFFF00#24⟩] ++
  [⟨"RXPUSH", 0x200000#24, 0xFFFF00#24⟩, ⟨"RXEVAL", 0x210000#24, 0xFFFFFF#24⟩, ⟨"CHSET", 0x300000#24, 0xFF0000#24⟩,
   ⟨"TXPACK", 0x310000#24, 0xFFFFFF#24⟩, ⟨"PLDSET", 0x320000#24, 0xFF0000#24⟩, ⟨"TXWRAP", 0x330000#24, 0xFFFFFF#24⟩,
   ⟨"TXSEND", 0x340000#24, 0xFFFFFF#24⟩]

/-- The mnemonic of an instruction, as `opcode_table.json` and R89 spell it. -/
def mnemonicOf : Instr → String
  | .nop => "NOP" | .rdreg _ => "RDREG" | .stclr _ => "STCLR" | .srst => "SRST"
  | .crcclr => "CRCCLR" | .crcb _ => "CRCB" | .rxpush _ => "RXPUSH" | .rxeval => "RXEVAL"
  | .chset _ _ => "CHSET" | .txpack => "TXPACK" | .pldset _ _ => "PLDSET" | .txwrap => "TXWRAP" | .txsend => "TXSEND"
  | .gps _ => "GPS" | .vario _ => "VARIO" | .batterySensor _ => "BATTERY_SENSOR" | .baroAlt _ => "BARO_ALT"
  | .heartbeat _ => "HEARTBEAT" | .videoTransmitter _ => "VIDEO_TRANSMITTER"
  | .linkStatistics _ => "LINK_STATISTICS" | .rcChannelsPacked _ => "RC_CHANNELS_PACKED"
  | .attitude _ => "ATTITUDE" | .flightMode _ => "FLIGHT_MODE" | .deviceInfo _ => "DEVICE_INFO"
  | .configRead _ => "CONFIG_READ" | .configWrite _ => "CONFIG_WRITE" | .command _ => "COMMAND"
  | .radioId _ => "RADIO_ID"

/-- The frame of 64 bytes (the longest, R8) whose type byte is `t` and whose other bytes are all zero: a packet-type row
of `opcode_table.json` with operand bytes of zeros. -/
def zeroFrame (t : Byte) : List Byte := [0#8, 0#8, t] ++ List.replicate 61 0#8

/-- What a table word of `nbits` bits is laid out as: the table gives a command row 24 bits, one whole word, and a
packet-type row the 8 bits of frame byte 2. -/
def tableEncoded (nbits w : Nat) : Encoded :=
  if nbits ≤ 8 then .frame (zeroFrame (BitVec.ofNat 8 w)) else .word (BitVec.ofNat 24 w)

/-- The instruction the decoder reads from a table word. -/
def decodeTableWord (nbits w : Nat) : Option Instr :=
  match decode (tableEncoded nbits w) with
  | .ok i => some i
  | .error _ => none

end Sys2Proof
end

