-- ==== Sys2Proof/Machine/Crc.lean ====
section
/-! DEFINITION. The CRC8-DVB-S2 engine as pure functions (`40_crc.md` R100 to R102, R107), and the frame check built on
it (`41_framer.md` R132). -/

namespace Sys2Proof.Machine

/-- One iteration of R100: the test is on bit 7 before the shift, and the bit shifted out is dropped. -/
def crcIter (x : Byte) : Byte :=
  if x.getLsbD 7 then (x <<< 1) ^^^ Config.crcPoly else x <<< 1

/-- `crcIter`, `n` times. -/
def crcIters : Nat → Byte → Byte
  | 0, x => x
  | n + 1, x => crcIters n (crcIter x)

/-- `crc_step(acc, d)` (R100). -/
def crcStep (acc d : Byte) : Byte := crcIters 8 (acc ^^^ d)

/-- `crc8(s)` (R101): no reflection, no final XOR. -/
def crc8 (s : List Byte) : Byte := s.foldl crcStep Config.crcInit

/-- The bytes of a frame the CRC covers: `F[2 .. len(F)-2]`, the type byte and the payload (R81, R132; C7). -/
def crcCovered (F : List Byte) : List Byte := F.dropLast.drop 2

/-- `validate_frame(F)` (R132): only the CRC is tested; neither the sync byte nor the length byte is (R129; C1). -/
def validateFrame (F : List Byte) : Bool := crc8 (crcCovered F) == F.getLastD 0#8

end Sys2Proof.Machine
end

