-- ==== Sys2Proof/Machine/Reset.lean ====
section
/-! DEFINITION. The reset values of the block's registers (`10_state.md` R24, R29, R34; `70_reset_and_hazards.md` R260),
and the conversion of a byte list to the payload register file (`42_packer.md` R155). -/

namespace Sys2Proof.Machine

/-- The payload register file holding a byte list: the first 22 bytes, or 0x00 appended up to 22 (R155's "truncate/pad",
which never acts on a packed payload). -/
def payloadOf (l : List Byte) : Vector Byte 22 :=
  ⟨((l ++ List.replicate 22 0#8).take 22).toArray, by simp⟩

/-- `CH` after reset: `STICK_CENTER`, but `STICK_MINIMUM` in channel `THROTTLE_CH` (R24, R34). -/
def resetCh (p : Config.Params) : Vector ChanVal 16 :=
  ⟨((List.range 16).map fun i =>
      if i = p.throttleCh then BitVec.ofNat 7 Config.stickMinimum else p.stickCenter).toArray, by simp⟩

/-- `TXP` after reset: zeros (R29, R34). -/
def resetTxp : Vector Byte 22 := payloadOf []

/-- `CRC_ACC` after reset (R27, R34). -/
def resetCrcAcc : Byte := Config.crcInit

/-- `STATUS` after reset (R26, R34). -/
def resetStatus : Byte := 0x00#8

end Sys2Proof.Machine
end

