-- ==== Sys2Proof/Machine/State.lean ====
section
/-! DEFINITION. The state of the machine as plain data: the tuple of `10_state.md` R20, the input and output ports, the
observer's histories (R33), the annex unit's pending frames and records, and the parameters of the build. -/

namespace Sys2Proof.Machine

/-- The kinds of an FRO record; "no other kind exists" (`30_encoding.md` R77). -/
inductive FroKind where
  /-- `0x01 FRAME_OK`. -/
  | frameOk
  /-- `0x02 CRC_ERR`. -/
  | crcErr
  deriving DecidableEq, Repr

/-- A record on the frame-output port (`30_encoding.md` R76). -/
structure FroRecord where
  kind : FroKind
  /-- `bytes[2]`, repeated for the consumer. -/
  type : Byte
  /-- The whole candidate frame, sync byte to CRC byte. -/
  bytes : List Byte
  deriving DecidableEq, Repr

/-- An item of the transmit byte stream (`30_encoding.md` R78). -/
structure TxItem where
  byte : Byte
  last : Bool
  deriving DecidableEq, Repr

/-- A telemetry value: the raw integer the unit delivers and the field's constant divisor (`45_telemetry.md` R202). -/
structure Scaled where
  raw : Int
  divisor : Nat
  deriving DecidableEq, Repr

/-- A TelemetryRecord: one variant per decoded packet type (`45_telemetry.md` R200, R203 to R208). -/
inductive TelemetryRecord where
  /-- R203. -/
  | gps (lat lon groundSpeed heading : Scaled) (altitude : Int) (satellites : Nat)
  /-- R204. -/
  | vario (verticalSpeed : Scaled)
  /-- R205. -/
  | attitude (pitch roll yaw : Scaled)
  /-- R206. -/
  | baroAlt (altitude : Scaled)
  /-- R207. -/
  | linkStatistics (rssi1 rssi2 : Int) (linkQuality : Nat) (snr : Int)
  /-- R208. -/
  | batterySensor (voltage current : Scaled) (consumedCapacity percentage : Nat)
  deriving DecidableEq, Repr

/-- The reasons a step can fault. There is none, and so no constructor: "Nothing inside the block is fatal"
(`60_exceptions.md` R242). An error is a response code in a next state (R230, R237); the overflowed buffer, which the
spec asks a model to treat as faulted, is a next state that `Safety.lean` names (R122, R235). Safe. -/
inductive Fault
  deriving DecidableEq, Repr

/-- The reasons a step can be refused. -/
inductive Refusal where
  /-- Raised by `exec` alone, for an instruction that has no meaning yet; none is left in this model. Safe. -/
  | notModelled (mnemonic : String)
  deriving DecidableEq, Repr

/-- The state. -/
structure State where
  /-- The parameters of the build (`00_scope.md` R9 to R12): constants, carried so that every claim holds for every
  build. DESIGN CHOICE, safe: `notes/assumptions/1.md`. -/
  params : Config.Params
  /-- `CH[0..15]`, the channel registers (R21). -/
  ch : Vector ChanVal 16
  /-- `TXP[0..21]`, the payload registers (R29). -/
  txp : Vector Byte 22
  /-- `CRC_ACC`, the accumulator of the CRC port (R27). -/
  crcAcc : Byte
  /-- `RXBUF[0..RX_LEN-1]`, the receive buffer, oldest byte first (R30; U10: "a model should use a list of length
  RX_LEN"). -/
  rxbuf : List Byte
  /-- `STATUS`, the sticky flags (R26). -/
  status : Byte
  /-- The power-on reset input, asserted by the platform (R260). -/
  por : Bool
  /-- The command port: the words the host has issued and the block has not taken, oldest first (R25, R60). -/
  cmds : List CmdWord
  /-- The responses given, oldest first (R17, R75). -/
  resp : List RespWord
  /-- FRO, the records emitted, oldest first (R33, R76). -/
  fro : List FroRecord
  /-- TXS, the items emitted, oldest first (R33, R78). -/
  txs : List TxItem
  /-- Annex: FRAME_OK frames forwarded to the unit and not yet taken, oldest first (R133, R200). -/
  tlmIn : List (List Byte)
  /-- Annex: the telemetry records delivered to the output sink, oldest first (R200). -/
  tlm : List TelemetryRecord
  /-- Annex: the frames marked refused because they are too short for their type, oldest first (R211). -/
  tlmRefused : List (List Byte)
  deriving DecidableEq, Repr

/-- The state after power-on reset of a block built with parameters `p` (R34, R260): the registers at their reset values,
the outputs empty, nothing at any input. -/
def State.resetOf (p : Config.Params) : State :=
  { params := p, ch := resetCh p, txp := resetTxp, crcAcc := resetCrcAcc, rxbuf := [], status := resetStatus,
    por := false, cmds := [], resp := [], fro := [], txs := [], tlmIn := [], tlm := [], tlmRefused := [] }

/-- The state right after power-on reset (R34), for the build `Config.Params.built`. -/
def State.reset : State := State.resetOf Config.Params.built

/-- `RX_LEN` (R20, R30): the number of valid bytes in the receive buffer. -/
def State.rxLen (s : State) : Nat := s.rxbuf.length

end Sys2Proof.Machine
end

