-- ==== Sys2Proof/Machine/Flags.lean ====
section
/-! DEFINITION. The STATUS register's flags (`10_state.md` R26) and every flag computation: set by an event, cleared by
STCLR (`44_system.md` R188), read by RDREG (R186). -/

namespace Sys2Proof.Machine

/-- The six flags of STATUS (R26). -/
inductive Flag where
  | crcerr | tooshort | toolong | rxovf | range | illcmd
  deriving DecidableEq, Repr

/-- The bit of a flag (R26). -/
def flagBit : Flag → Nat
  | .crcerr => 0
  | .tooshort => 1
  | .toolong => 2
  | .rxovf => 3
  | .range => 4
  | .illcmd => 5

/-- The mask with only a flag's bit. -/
def flagMask : Flag → Byte
  | .crcerr => 0x01#8
  | .tooshort => 0x02#8
  | .toolong => 0x04#8
  | .rxovf => 0x08#8
  | .range => 0x10#8
  | .illcmd => 0x20#8

/-- STATUS with a flag set; a flag already set stays set (R26). -/
def withFlag (f : Flag) (st : Byte) : Byte := st ||| flagMask f

/-- Whether a flag is set in STATUS. -/
def hasFlag (f : Flag) (st : Byte) : Bool := st.getLsbD (flagBit f)

/-- The bits STCLR can clear: 0, 1, 2, 4 and 5 (R188). -/
def clearable : Byte := 0x37#8

/-- STATUS after STCLR with mask `b` (R188). -/
def clearFlags (b st : Byte) : Byte := st &&& ~~~(b &&& clearable)

/-- STATUS as RDREG reads it: bits 7:6 read as 0 (R26, R28, R186). -/
def statusRead (st : Byte) : Byte := st &&& 0x3F#8

end Sys2Proof.Machine
end

