-- ==== Sys2Proof/Machine/Ops.lean ====
section
/-! DEFINITION. The named operations over the state: one update per field, the receive buffer's accesses
(`00_scope.md` R16; `10_state.md` R30), the response (`30_encoding.md` R75), the raising of an error
(`60_exceptions.md` R230 to R237), reset (R34, R260), and the host's inputs. -/

namespace Sys2Proof.Machine

/-! ### One update per field -/

/-- Write the channel registers. -/
def State.setCh (v : Vector ChanVal 16) (s : State) : State := { s with ch := v }
/-- Write the payload registers. -/
def State.setTxp (v : Vector Byte 22) (s : State) : State := { s with txp := v }
/-- Write the CRC accumulator. -/
def State.setCrcAcc (v : Byte) (s : State) : State := { s with crcAcc := v }
/-- Replace the content of the receive buffer. -/
def State.setRxbuf (v : List Byte) (s : State) : State := { s with rxbuf := v }
/-- Write STATUS. -/
def State.setStatus (v : Byte) (s : State) : State := { s with status := v }
/-- Drive the power-on reset input. -/
def State.setPor (v : Bool) (s : State) : State := { s with por := v }
/-- Replace what waits on the command port. -/
def State.setCmds (v : List CmdWord) (s : State) : State := { s with cmds := v }
/-- Append a response word. -/
def State.addResp (r : RespWord) (s : State) : State := { s with resp := s.resp ++ [r] }
/-- `emit FRO` (R16). -/
def State.addFro (r : FroRecord) (s : State) : State := { s with fro := s.fro ++ [r] }
/-- `emit TXS`, for a run of items in order (R16, R63). -/
def State.addTxs (l : List TxItem) (s : State) : State := { s with txs := s.txs ++ l }
/-- Replace what waits at the annex unit's input. -/
def State.setTlmIn (v : List (List Byte)) (s : State) : State := { s with tlmIn := v }
/-- Deliver a telemetry record to the output sink (R200). -/
def State.addTlm (r : TelemetryRecord) (s : State) : State := { s with tlm := s.tlm ++ [r] }
/-- Mark a frame as refused by the annex unit (R211). -/
def State.addTlmRefused (F : List Byte) (s : State) : State := { s with tlmRefused := s.tlmRefused ++ [F] }

/-- Set a flag of STATUS (R26). -/
def State.setFlag (f : Flag) (s : State) : State := s.setStatus (withFlag f s.status)

/-- Whether a flag of STATUS is set. -/
def State.flag (f : Flag) (s : State) : Bool := hasFlag f s.status

/-! ### The receive buffer (R16, R30)

The address of a byte is its index in the buffer; the list of the bytes in index order is the one form of a content. -/

/-- `MemRead(addr, n)`: the bytes `RXBUF[addr .. addr+n-1]`, not removed (R16). -/
def memRead (addr n : Nat) (m : List Byte) : List Byte := (m.drop addr).take n

/-- `MemWrite(RX_LEN, 1, b)`, the only write the block performs: the append (R16, R121). -/
def memAppend (b : Byte) (m : List Byte) : List Byte := m ++ [b]

/-- Removal of the first `k` bytes: the rest moves to the front in order (R30). -/
def memRemove (k : Nat) (m : List Byte) : List Byte := m.drop k

/-- The content as (address, byte) cells, addresses rising from 0; an address not listed has no value (R30, U10). -/
def memCells (m : List Byte) : List Host.Cell := m.zipIdx.map fun c => (c.2, c.1)

/-- The buffer fits its capacity: `RX_LEN <= RXBUF_CAP` (R30). Its list form is canonical by itself. -/
abbrev Memory.wf (cap : Nat) (m : List Byte) : Prop := m.length ≤ cap

/-! ### Responses and errors -/

/-- The response codes (R231). -/
inductive RespCode where
  | ok | eRange | eIllegal | eOperand | eRxovf
  deriving DecidableEq, Repr

/-- The number of a response code (R231). -/
def respNumber : RespCode → Byte
  | .ok => 0x00#8
  | .eRange => 0x01#8
  | .eIllegal => 0x02#8
  | .eOperand => 0x03#8
  | .eRxovf => 0x04#8

/-- The response word: `rc = resp[15:8]`, `rd = resp[7:0]` (R75). -/
def respWord (rc : RespCode) (rd : Byte) : RespWord := respNumber rc ++ rd

/-- `respond(rc, rd)`: end a command with the given response (R16). -/
def respond (rc : RespCode) (rd : Byte) (s : State) : State := s.addResp (respWord rc rd)

/-- The flag an error code sets (R230 (b), R233, R234, R235; `42_packer.md` R150); none for OK. -/
def errorFlag : RespCode → Option Flag
  | .ok => none
  | .eRange => some .range
  | .eIllegal => some .illcmd
  | .eOperand => some .illcmd
  | .eRxovf => some .rxovf

/-- `raise E_X`: what stands for taking an exception in this block (R237). The error's flag is set, the response carries
its code with `rd = 0x00` (R231), and nothing else changes; nothing is saved, no mode changes and no vector is taken.
There is no return from it to model: the next command is taken at once (R238). -/
def raise (rc : RespCode) (s : State) : State :=
  respond rc 0x00#8
    (match errorFlag rc with
     | some f => s.setFlag f
     | none => s)

/-- What a word that is no command does: E_ILLEGAL (R74, R233). -/
def illegalCommand (s : State) : State := raise .eIllegal s

/-! ### Reset -/

/-- The reset of every piece of the block's state (R34), as SRST performs it: what was emitted stays (R33, R189), and so
does what waits at the inputs. -/
def resetBlock (s : State) : State :=
  { s with ch := resetCh s.params, txp := resetTxp, crcAcc := resetCrcAcc, rxbuf := [], status := resetStatus }

/-- Power-on reset (R260): the state of R34 with the output sequences empty. The host's words that still wait are input,
not state (R20), and stay. DESIGN CHOICE: `notes/assumptions/10.md`. -/
def powerOnReset (s : State) : State := (State.resetOf s.params).setCmds s.cmds

/-! ### The host's side -/

/-- The host issues command words (R25). -/
def State.issue (ws : List CmdWord) (s : State) : State := s.setCmds (s.cmds ++ ws)

/-- The kind number of an FRO record (R77). -/
def froNumber : FroKind → Byte
  | .frameOk => 0x01#8
  | .crcErr => 0x02#8

/-- The exact rational a telemetry value stands for (R202). -/
def scaledValue (v : Scaled) : ℚ := v.raw / v.divisor

end Sys2Proof.Machine
end

