-- ==== Sys2Proof/Machine/CrcPort.lean ====
section
/-! DEFINITION. The CRC port's commands (`40_crc.md` R104, R105). -/

namespace Sys2Proof.Machine

/-- CRCCLR (R104). -/
def execCrcclr (s : State) : Host.Outcome State Fault Refusal := .next (respond .ok 0x00#8 (s.setCrcAcc 0x00#8))

/-- CRCB (R105). -/
def execCrcb (b : Byte) (s : State) : Host.Outcome State Fault Refusal :=
  .next (respond .ok 0x00#8 (s.setCrcAcc (crcStep s.crcAcc b)))

end Sys2Proof.Machine
end

