-- ==== Sys2Proof/Machine/Framer.lean ====
section
/-! DEFINITION. The frame synchronizer and validator (`41_framer.md` R120 to R139): RXPUSH and RXEVAL. -/

namespace Sys2Proof.Machine

/-- RXPUSH (R121), into a full buffer an overflow (R122, R235): the byte is dropped and RXOVF set. -/
def execRxpush (b : Byte) (s : State) : Host.Outcome State Fault Refusal :=
  if s.rxLen < s.params.rxbufCap then .next (respond .ok 0x00#8 (s.setRxbuf (memAppend b s.rxbuf)))
  else .next (raise .eRxovf s)

/-- `expected_len = zext_9(RXBUF[1]) + 2`, 2..257, never wrapping (R83, R124). Used only with more than 2 bytes held. -/
def expectedLen (m : List Byte) : Nat := (m.getD 1 0#8).toNat + 2

/-- The implicit states of the synchronizer, inside one iteration of the loop (R123). -/
inductive SyncState where
  /-- Nothing to do until more bytes arrive (T1, R127; T3, R128). -/
  | accumulating
  /-- The length byte implies an impossible frame; the flag says which way (T2, R126). -/
  | corrupt (f : Flag)
  /-- A candidate frame has been sliced off the front; the rest stays (T4, R130). -/
  | frameReady (F rest : List Byte)
  deriving DecidableEq, Repr

/-- The transition a buffer's content calls for, tested in the order T1, T2, T3, T4 (R125, R236). -/
def syncTransition (m : List Byte) : SyncState :=
  if m.length ≤ 2 then .accumulating
  else if Config.maxFrame < expectedLen m then .corrupt .toolong
  else if expectedLen m < Config.minFrame then .corrupt .tooshort
  else if m.length < expectedLen m then .accumulating
  else .frameReady (memRead 0 (expectedLen m) m) (memRemove (expectedLen m) m)

/-- Forward a validated frame to the annex unit, if it is present (R133, R200). -/
def forwardFrame (F : List Byte) (s : State) : State :=
  if s.params.hasTlmx then s.setTlmIn (s.tlmIn ++ [F]) else s

/-- T5 for a candidate frame (R131, R133): every type byte is treated alike. -/
def reportFrame (F : List Byte) (s : State) : State :=
  if validateFrame F then forwardFrame F (s.addFro ⟨.frameOk, F.getD 2 0#8, F⟩)
  else (s.setFlag .crcerr).addFro ⟨.crcErr, F.getD 2 0#8, F⟩

/-- The transition loop (R125), at most so many iterations. -/
def rxLoop : Nat → State → State
  | 0, s => s
  | n + 1, s =>
    match syncTransition s.rxbuf with
    | .accumulating => s
    | .corrupt f => rxLoop n ((s.setFlag f).setRxbuf [])
    | .frameReady F rest => rxLoop n (reportFrame F (s.setRxbuf rest))

/-- The number of iterations the loop can need: `floor(RX_LEN / 4) + 2` (R134). -/
def rxIterations (s : State) : Nat := s.rxLen / 4 + 2

/-- RXEVAL (R125): stream errors are not errors of the command, its response is OK (R230). -/
def execRxeval (s : State) : Host.Outcome State Fault Refusal :=
  .next (respond .ok 0x00#8 (rxLoop (rxIterations s) s))

end Sys2Proof.Machine
end

