-- ==== Sys2Proof/Machine/Operands.lean ====
section
/-! DEFINITION. The operand forms (`30_encoding.md` R73): the index operand compared whole, the signed value of CHSET
(`42_packer.md` R150), and the register map of RDREG (`10_state.md` R28; `44_system.md` R186). -/

namespace Sys2Proof.Machine

/-- `signed_8(b)`, the value operand of CHSET (R73, R150). -/
def signed8 (b : Byte) : Int := b.toInt

/-- Whether a value is in `[STICK_MINIMUM, STICK_MAXIMUM]` (R150). -/
abbrev stickInRange (v : Int) : Prop := (Config.stickMinimum : Int) ≤ v ∧ v ≤ (Config.stickMaximum : Int)

/-- `v[6:0]` (R150). -/
def chanBits (b : Byte) : ChanVal := b.extractLsb' 0 7

/-- The channel index operand: 0..15, compared without truncation (R73, R151). -/
abbrev chanIndexOk (a : Byte) : Prop := a.toNat ≤ 15

/-- The payload index operand: 0..21, compared without truncation (R73, R174). -/
abbrev payloadIndexOk (a : Byte) : Prop := a.toNat ≤ 21

/-- `CH` with register `a` written; only called with `a` in range. -/
def writeChan (a : Byte) (v : ChanVal) (s : State) : State := s.setCh (s.ch.setIfInBounds a.toNat v)

/-- `TXP` with register `a` written; only called with `a` in range. -/
def writePayload (a b : Byte) (s : State) : State := s.setTxp (s.txp.setIfInBounds a.toNat b)

/-- `min(RX_LEN, 255)` (R28, R159 (c)). -/
def rxLenRead (s : State) : Byte := BitVec.ofNat 8 (min s.rxLen 255)

/-- The register of number `a`, none for a reserved number (R28, R186). -/
def readRegister (a : Byte) (s : State) : Option Byte :=
  if a = 0x00#8 then some (statusRead s.status)
  else if a = 0x01#8 then some s.crcAcc
  else if a = 0x02#8 then some (rxLenRead s)
  else if h : 0x10 ≤ a.toNat ∧ a.toNat ≤ 0x1F then some ((s.ch[a.toNat - 0x10]'(by omega)).zeroExtend 8)
  else if h : 0x20 ≤ a.toNat ∧ a.toNat ≤ 0x35 then some (s.txp[a.toNat - 0x20]'(by omega))
  else none

end Sys2Proof.Machine
end

