-- ==== Sys2Proof/Machine/System.lean ====
section
/-! DEFINITION. The system commands (`44_system.md` R185, R186, R188, R189). -/

namespace Sys2Proof.Machine

/-- NOP (R185). -/
def execNop (s : State) : Host.Outcome State Fault Refusal := .next (respond .ok 0x00#8 s)

/-- RDREG (R186): a read has no side effect; a reserved number is an operand error. -/
def execRdreg (a : Byte) (s : State) : Host.Outcome State Fault Refusal :=
  match readRegister a s with
  | some v => .next (respond .ok v s)
  | none => .next (raise .eOperand s)

/-- STCLR (R188). -/
def execStclr (b : Byte) (s : State) : Host.Outcome State Fault Refusal :=
  .next (respond .ok 0x00#8 (s.setStatus (clearFlags b s.status)))

/-- SRST (R189). -/
def execSrst (s : State) : Host.Outcome State Fault Refusal := .next (respond .ok 0x00#8 (resetBlock s))

end Sys2Proof.Machine
end

