-- ==== Sys2Proof/Machine/Telemetry.lean ====
section
/-! DEFINITION. The annex unit TLMX (`45_telemetry.md` R200 to R211): field extraction from a validated frame, and one
meaning per packet type. -/

namespace Sys2Proof.Machine

/-! ### Field access (R201), on the whole frame, byte 0 the sync byte -/

/-- `F[i]`; only called inside the frame (R211). -/
def frameByte (F : List Byte) (i : Nat) : Byte := F.getD i 0#8

/-- `u8(F, i)`. -/
def u8 (F : List Byte) (i : Nat) : Nat := (frameByte F i).toNat

/-- `s8(F, i)`, two's complement. -/
def s8 (F : List Byte) (i : Nat) : Int := (frameByte F i).toInt

/-- `s16(F, i)`, big-endian two's complement (R52). -/
def s16 (F : List Byte) (i : Nat) : Int := (frameByte F i ++ frameByte F (i + 1)).toInt

/-- `s32(F, i)`, big-endian two's complement (R52). -/
def s32 (F : List Byte) (i : Nat) : Int :=
  (frameByte F i ++ frameByte F (i + 1) ++ frameByte F (i + 2) ++ frameByte F (i + 3)).toInt

/-! ### The decoded types -/

/-- GPS (R203). -/
def gpsRecord (F : List Byte) : TelemetryRecord :=
  .gps ⟨s32 F 3, 10000000⟩ ⟨s32 F 7, 10000000⟩ ⟨s16 F 11, 36⟩ ⟨s16 F 13, 100⟩ (s16 F 15 - 1000) (u8 F 17)

/-- VARIO (R204). -/
def varioRecord (F : List Byte) : TelemetryRecord := .vario ⟨s16 F 3, 10⟩

/-- ATTITUDE (R205). -/
def attitudeRecord (F : List Byte) : TelemetryRecord :=
  .attitude ⟨s16 F 3, 10000⟩ ⟨s16 F 5, 10000⟩ ⟨s16 F 7, 10000⟩

/-- BARO_ALT (R206). -/
def baroAltRecord (F : List Byte) : TelemetryRecord := .baroAlt ⟨s32 F 3, 100⟩

/-- LINK_STATISTICS (R207). -/
def linkStatisticsRecord (F : List Byte) : TelemetryRecord := .linkStatistics (s8 F 3) (s8 F 4) (u8 F 5) (s8 F 6)

/-- `consumedCapacity` of BATTERY_SENSOR: the middle byte is shifted by 7, and the terms are combined by OR (R208; C4). -/
def consumedCapacity (F : List Byte) : Nat := (u8 F 7 <<< 16) ||| (u8 F 8 <<< 7) ||| u8 F 9

/-- BATTERY_SENSOR (R208). -/
def batterySensorRecord (F : List Byte) : TelemetryRecord :=
  .batterySensor ⟨s16 F 3, 10⟩ ⟨s16 F 5, 10⟩ (consumedCapacity F) (u8 F 10)

/-- The record a packet type's frame decodes to and the highest index it uses (R203 to R208), or nothing for the nine
types with no action (R209). -/
def packetRecord : Config.PacketType → Option (Nat × (List Byte → TelemetryRecord))
  | .gps => some (17, gpsRecord)
  | .vario => some (4, varioRecord)
  | .batterySensor => some (10, batterySensorRecord)
  | .baroAlt => some (6, baroAltRecord)
  | .linkStatistics => some (6, linkStatisticsRecord)
  | .attitude => some (8, attitudeRecord)
  | .heartbeat => none
  | .videoTransmitter => none
  | .rcChannelsPacked => none
  | .flightMode => none
  | .deviceInfo => none
  | .configRead => none
  | .configWrite => none
  | .command => none
  | .radioId => none

/-- A frame is long enough when every field lies inside the payload: `len(F) >= h + 2` (R211). -/
abbrev longEnough (h : Nat) (F : List Byte) : Prop := h + 2 ≤ F.length

/-- `tlm_decode(t, F)` (R200, R209, R210, R211). -/
def tlmDecode (t : Byte) (F : List Byte) : Option TelemetryRecord :=
  match packetOfTag t with
  | none => none
  | some p =>
    match packetRecord p with
    | none => none
    | some (h, r) => if longEnough h F then some (r F) else none

/-! ### The meanings

The unit is present only in a build with `HAS_TLMX` (R200); without it a frame reaches no decoder and nothing happens
(R6). -/

/-- A frame of a decoded type (R200): its record goes to the sink; a frame too short for it gives no record and is marked
refused (R211). -/
def deliverRecord (h : Nat) (r : List Byte → TelemetryRecord) (F : List Byte) (s : State) : State :=
  if s.params.hasTlmx then if longEnough h F then s.addTlm (r F) else s.addTlmRefused F else s

/-- A frame that is consumed without error and produces no record (R209, R210). -/
def consumeFrame (s : State) : State := s

/-- GPS (R203). -/
def execGps (f : Frame) (s : State) : Host.Outcome State Fault Refusal :=
  .next (deliverRecord 17 gpsRecord (f.bytes 0x02#8) s)

/-- VARIO (R204). -/
def execVario (f : Frame) (s : State) : Host.Outcome State Fault Refusal :=
  .next (deliverRecord 4 varioRecord (f.bytes 0x07#8) s)

/-- BATTERY_SENSOR (R208). -/
def execBatterySensor (f : Frame) (s : State) : Host.Outcome State Fault Refusal :=
  .next (deliverRecord 10 batterySensorRecord (f.bytes 0x08#8) s)

/-- BARO_ALT (R206). -/
def execBaroAlt (f : Frame) (s : State) : Host.Outcome State Fault Refusal :=
  .next (deliverRecord 6 baroAltRecord (f.bytes 0x09#8) s)

/-- HEARTBEAT (R209). -/
def execHeartbeat (_f : Frame) (s : State) : Host.Outcome State Fault Refusal := .next (consumeFrame s)

/-- VIDEO_TRANSMITTER (R209). -/
def execVideoTransmitter (_f : Frame) (s : State) : Host.Outcome State Fault Refusal := .next (consumeFrame s)

/-- LINK_STATISTICS (R207). -/
def execLinkStatistics (f : Frame) (s : State) : Host.Outcome State Fault Refusal :=
  .next (deliverRecord 6 linkStatisticsRecord (f.bytes 0x14#8) s)

/-- RC_CHANNELS_PACKED received: not unpacked (R209). -/
def execRcChannelsPacked (_f : Frame) (s : State) : Host.Outcome State Fault Refusal := .next (consumeFrame s)

/-- ATTITUDE (R205). -/
def execAttitude (f : Frame) (s : State) : Host.Outcome State Fault Refusal :=
  .next (deliverRecord 8 attitudeRecord (f.bytes 0x1E#8) s)

/-- FLIGHT_MODE (R209). -/
def execFlightMode (_f : Frame) (s : State) : Host.Outcome State Fault Refusal := .next (consumeFrame s)

/-- DEVICE_INFO (R209). -/
def execDeviceInfo (_f : Frame) (s : State) : Host.Outcome State Fault Refusal := .next (consumeFrame s)

/-- CONFIG_READ (R209). -/
def execConfigRead (_f : Frame) (s : State) : Host.Outcome State Fault Refusal := .next (consumeFrame s)

/-- CONFIG_WRITE (R209). -/
def execConfigWrite (_f : Frame) (s : State) : Host.Outcome State Fault Refusal := .next (consumeFrame s)

/-- COMMAND (R209). -/
def execCommand (_f : Frame) (s : State) : Host.Outcome State Fault Refusal := .next (consumeFrame s)

/-- RADIO_ID (R209). -/
def execRadioId (_f : Frame) (s : State) : Host.Outcome State Fault Refusal := .next (consumeFrame s)

end Sys2Proof.Machine
end

