-- ==== Sys2Proof/Machine/Packer.lean ====
section
/-! DEFINITION. The channel registers, the value mapping and the packer (`42_packer.md` R150 to R157): CHSET and
TXPACK. -/

namespace Sys2Proof.Machine

/-- CHSET (R150, R151): the index is checked before the value (R236). -/
def execChset (a b : Byte) (s : State) : Host.Outcome State Fault Refusal :=
  if chanIndexOk a then
    if stickInRange (signed8 b) then .next (respond .ok 0x00#8 (writeChan a (chanBits b) s))
    else .next (raise .eRange s)
  else .next (raise .eOperand s)

/-- `map_ch(v)` (R152): linear from `[STICK_MINIMUM, STICK_MAXIMUM]` to `[RC_MIN, RC_MAX]`, truncated; all terms are
non-negative, so the quotient's floor is the truncation (R159 (e)). -/
def mapCh (p : Config.Params) (v : ChanVal) : WireVal :=
  BitVec.ofNat 11
    (p.rcMin + (v.toNat - Config.stickMinimum) * (p.rcMax - p.rcMin) / (Config.stickMaximum - Config.stickMinimum))

/-- The packer's transient values: `PK_ACC`, `PK_NB` and the bytes out so far (R154; `10_state.md` R32 (c)). -/
structure Packing where
  acc : Nat
  nb : Nat
  out : List Byte
  deriving DecidableEq, Repr

/-- The inner loop of R154: flush bytes while 8 bits or more are pending, at most so many. -/
def packFlush : Nat → Packing → Packing
  | 0, k => k
  | n + 1, k =>
    if 8 ≤ k.nb then packFlush n ⟨k.acc >>> 8, k.nb - 8, k.out ++ [BitVec.ofNat 8 k.acc]⟩ else k

/-- One channel of R154: OR the value in at the bit offset, then flush. At most 18 bits are pending, so two flushes
suffice (R159 (f)). -/
def packStep (k : Packing) (m : WireVal) : Packing :=
  packFlush 2 ⟨k.acc ||| (m.toNat <<< k.nb), k.nb + Config.chBits, k.out⟩

/-- `pack16(m)` (R154), with its flush of a remaining partial byte. -/
def pack16 (m : List WireVal) : List Byte :=
  let k := m.foldl packStep ⟨0, 0, []⟩
  if 0 < k.nb then k.out ++ [BitVec.ofNat 8 k.acc] else k.out

/-- The payload of the channel registers as they stand, channels in index order (R154, R155, R156). -/
def packChannels (s : State) : Vector Byte 22 := payloadOf (pack16 (s.ch.toList.map (mapCh s.params)))

/-- TXPACK (R156). -/
def execTxpack (s : State) : Host.Outcome State Fault Refusal :=
  .next (respond .ok 0x00#8 (s.setTxp (packChannels s)))

/-- The number whose byte `j` is `P[j]`: `sum over j of P[j] << 8j` (R157). -/
def payloadNumber : List Byte → Nat
  | [] => 0
  | b :: bs => b.toNat + 256 * payloadNumber bs

/-- `unpack16(P)[i]` (R157): a test oracle, "not a function of the hardware". -/
def unpack16 (P : List Byte) (i : Nat) : WireVal := BitVec.ofNat 11 (payloadNumber P >>> (11 * i))

end Sys2Proof.Machine
end

