-- ==== Sys2Proof/Machine/Wrapper.lean ====
section
/-! DEFINITION. The frame header/CRC wrapper (`43_wrapper.md` R170 to R177): PLDSET, TXWRAP and TXSEND. -/

namespace Sys2Proof.Machine

/-- PLDSET (R174). -/
def execPldset (a b : Byte) (s : State) : Host.Outcome State Fault Refusal :=
  if payloadIndexOk a then .next (respond .ok 0x00#8 (writePayload a b s))
  else .next (raise .eOperand s)

/-- `encode_rc_frame(P)` (R171). -/
def encodeRcFrame (P : Vector Byte 22) : List Byte :=
  [Config.sync, Config.rcLenField, Config.rcType] ++ P.toList ++ [crc8 (Config.rcType :: P.toList)]

/-- A frame as transmit items in index order, `last` on the final byte only (R78, R175). -/
def txItems : List Byte → List TxItem
  | [] => []
  | [b] => [⟨b, true⟩]
  | b :: bs => ⟨b, false⟩ :: txItems bs

/-- Wrap a payload and emit its 26 bytes (R175, R176). -/
def sendPayload (P : Vector Byte 22) (s : State) : State := s.addTxs (txItems (encodeRcFrame P))

/-- TXWRAP (R175): sends whatever TXP holds (R265). -/
def execTxwrap (s : State) : Host.Outcome State Fault Refusal := .next (respond .ok 0x00#8 (sendPayload s.txp s))

/-- TXSEND (R176): pack, wrap and transmit as one atomic command. -/
def execTxsend (s : State) : Host.Outcome State Fault Refusal :=
  .next (respond .ok 0x00#8 (sendPayload (packChannels s) (s.setTxp (packChannels s))))

end Sys2Proof.Machine
end

