-- ==== Sys2Proof/Machine/Dispatch.lean ====
section
/-! DEFINITION. One arm per constructor of `Instr`, each one call of its meaning. -/

namespace Sys2Proof.Machine

def exec (i : Instr) (s : State) : Host.Outcome State Fault Refusal :=
  match i with
  -- the thirteen commands (R72)
  | .nop => Sys2Proof.Machine.execNop s
  | .rdreg a => Sys2Proof.Machine.execRdreg a s
  | .stclr b => Sys2Proof.Machine.execStclr b s
  | .srst => Sys2Proof.Machine.execSrst s
  | .crcclr => Sys2Proof.Machine.execCrcclr s
  | .crcb b => Sys2Proof.Machine.execCrcb b s
  | .rxpush b => Sys2Proof.Machine.execRxpush b s
  | .rxeval => Sys2Proof.Machine.execRxeval s
  | .chset a b => Sys2Proof.Machine.execChset a b s
  | .txpack => Sys2Proof.Machine.execTxpack s
  | .pldset a b => Sys2Proof.Machine.execPldset a b s
  | .txwrap => Sys2Proof.Machine.execTxwrap s
  | .txsend => Sys2Proof.Machine.execTxsend s
  -- the fifteen packet types (R85)
  | .gps f => Sys2Proof.Machine.execGps f s
  | .vario f => Sys2Proof.Machine.execVario f s
  | .batterySensor f => Sys2Proof.Machine.execBatterySensor f s
  | .baroAlt f => Sys2Proof.Machine.execBaroAlt f s
  | .heartbeat f => Sys2Proof.Machine.execHeartbeat f s
  | .videoTransmitter f => Sys2Proof.Machine.execVideoTransmitter f s
  | .linkStatistics f => Sys2Proof.Machine.execLinkStatistics f s
  | .rcChannelsPacked f => Sys2Proof.Machine.execRcChannelsPacked f s
  | .attitude f => Sys2Proof.Machine.execAttitude f s
  | .flightMode f => Sys2Proof.Machine.execFlightMode f s
  | .deviceInfo f => Sys2Proof.Machine.execDeviceInfo f s
  | .configRead f => Sys2Proof.Machine.execConfigRead f s
  | .configWrite f => Sys2Proof.Machine.execConfigWrite f s
  | .command f => Sys2Proof.Machine.execCommand f s
  | .radioId f => Sys2Proof.Machine.execRadioId f s

end Sys2Proof.Machine
end

