-- ==== Sys2Proof/Machine/Step.lean ====
section
/-! DEFINITION. One step of the machine: power-on reset if it is asserted, else one pending frame at the annex unit, else
one command word, else nothing (`00_scope.md` R13, R17; `10_state.md` R25; `45_telemetry.md` R200; `70_…` R260). The order
and the idle step are the model's: `notes/assumptions/3.md`, `5.md`, `10.md`. -/

namespace Sys2Proof.Machine

/-- Take one command word (R17): run the command it stands for; a word that is no command is E_ILLEGAL (R233). -/
def stepWord (w : CmdWord) (s : State) : Host.Outcome State Fault Refusal :=
  match decode (.word w) with
  | .ok i => exec i s
  | .error _ => .next (illegalCommand s)

/-- Take one forwarded frame (R200): run the packet type it stands for; a frame of an unknown type is consumed without
error and gives no record (R210). -/
def stepFrame (F : List Byte) (s : State) : Host.Outcome State Fault Refusal :=
  match decode (.frame F) with
  | .ok i => exec i s
  | .error _ => .next (consumeFrame s)

/-- One step. -/
def step (s : State) : Host.Outcome State Fault Refusal :=
  if s.por then .next (powerOnReset s)
  else
    match s.tlmIn with
    | F :: rest => stepFrame F (s.setTlmIn rest)
    | [] =>
      match s.cmds with
      | w :: rest => stepWord w (s.setCmds rest)
      | [] => .next s

/-- What is to be decoded, put where the next step takes it. -/
def State.withEncoded (s : State) (e : Encoded) : State :=
  match e with
  | .word w => ((s.setPor false).setTlmIn []).setCmds (w :: s.cmds)
  | .frame F => (s.setPor false).setTlmIn (F :: s.tlmIn)

/-- The state in which the very next step takes the table word `w` of `nbits` bits: a command word at the head of the
command port with no frame pending before it, or a frame at the head of the annex unit's input. -/
def State.withFetchWord (s : State) (nbits w : Nat) : State := s.withEncoded (tableEncoded nbits w)

end Sys2Proof.Machine
end

