-- ==== Sys2Proof/Machine/Pseudo.lean ====
section
/-! DEFINITION. The pseudo-instructions of `30_encoding.md` R90 and the streaming ports of R91: fixed sequences of
commands, each command atomic, the sequence not. -/

namespace Sys2Proof.Machine

/-- The pseudo-instructions (R90). -/
inductive Pseudo where
  /-- One byte as a burst of one. -/
  | rxpe (d : Byte)
  /-- A burst. R90 gives the form for one byte or more. DESIGN CHOICE, `notes/assumptions/21.md`: with no bytes it stands
  for RXEVAL alone. -/
  | rxburst (ds : List Byte)
  | crcrd
  /-- Its last response carries `crc8` of the bytes. -/
  | crc8 (ds : List Byte)
  | rdst
  | rdrxl
  /-- Channel index 0..15. -/
  | rdch (i : Fin 16)
  /-- Payload index 0..21. -/
  | rdpl (j : Fin 22)
  /-- The 22 payload bytes. -/
  | pldload (ds : Vector Byte 22)
  deriving DecidableEq, Repr

/-- The commands a pseudo-instruction abbreviates (R90). -/
def pseudoExpand : Pseudo → List Instr
  | .rxpe d => [.rxpush d, .rxeval]
  | .rxburst ds => ds.map .rxpush ++ [.rxeval]
  | .crcrd => [.rdreg 0x01#8]
  | .crc8 ds => .crcclr :: ds.map .crcb ++ [.rdreg 0x01#8]
  | .rdst => [.rdreg 0x00#8]
  | .rdrxl => [.rdreg 0x02#8]
  | .rdch i => [.rdreg (BitVec.ofNat 8 (0x10 + i.val))]
  | .rdpl j => [.rdreg (BitVec.ofNat 8 (0x20 + j.val))]
  | .pldload ds => ds.toList.zipIdx.map fun c => .pldset (BitVec.ofNat 8 c.2) c.1

/-- A transfer on the optional byte-stream input: a byte and whether it ends a burst (R91). -/
def streamByte (data : Byte) (last : Bool) : List Instr :=
  if last then [.rxpush data, .rxeval] else [.rxpush data]

/-- The optional transmit trigger (R91). -/
def streamTrigger : List Instr := [.txsend]

/-- Run instructions one after another, stopping at the first fault or refusal. -/
def execAll : List Instr → State → Host.Outcome State Fault Refusal
  | [], s => .next s
  | i :: is, s =>
    match exec i s with
    | .next t => execAll is t
    | .fault r => .fault r
    | .refused r => .refused r

/-- The word of a command (none for a packet type, which is no command). -/
def commandWord (i : Instr) : Option CmdWord :=
  match encode i with
  | .word w => some w
  | .frame _ => none

/-- The host issues a sequence of commands. -/
def State.issueAll (is : List Instr) (s : State) : State := s.issue (is.filterMap commandWord)

end Sys2Proof.Machine
end

