-- ==== Sys2Proof/WellFormed.lean ====
section
/-! DEFINITION. Well-formed instructions. A command's fields are whole bytes and every value of them is a legal word of
its format (`30_encoding.md` R71, R74), so every command is well-formed; an index out of range is an operand error of a
legal word (R234), not an ill-formed one. A packet type is well-formed when its frame is one the validator forwards:
legal length, length byte that counts the bytes, CRC that matches (R79, R80, R81; `41_framer.md` R133). The sync byte is
not tested (R82, R129; C1). -/

namespace Sys2Proof

/-- The total length is legal: at most 60 payload bytes, 64 in all (R79, R80). -/
abbrev Frame.lengthLegal (f : Frame) : Prop := f.payload.length + Config.minFrame ≤ Config.maxFrame

/-- The length byte counts the bytes from type through crc (R80). -/
abbrev Frame.lengthAgrees (f : Frame) : Prop := f.len.toNat = f.payload.length + 2

/-- The CRC byte is the CRC of type and payload (R81). -/
abbrev Frame.crcMatches (t : Byte) (f : Frame) : Prop := f.crc = Machine.crc8 (t :: f.payload)

/-- A frame of type `t` as the validator forwards it. -/
abbrev Frame.wf (t : Byte) (f : Frame) : Prop := f.lengthLegal ∧ f.lengthAgrees ∧ f.crcMatches t

/-- The check: a command passes, a packet type passes when its frame is one the validator forwards. -/
def wellFormed (i : Instr) : Bool :=
  match packetOf i with
  | none => true
  | some (p, f) => decide (f.wf (packetTag p))

/-- Well-formed instructions. -/
abbrev WellFormed (i : Instr) : Prop := wellFormed i = true

end Sys2Proof
end

