-- ==== Sys2Proof/Safety.lean ====
section
/-! DEFINITION. What a good state and a safe run are, in the terms the claims use. -/

namespace Sys2Proof.Machine

/-- The channel registers are within the stick range (`10_state.md` R22). -/
abbrev State.channelsInRange (s : State) : Prop := ∀ v ∈ s.ch.toList, v.toNat ≤ Config.stickMaximum

/-- STATUS bits 7:6 are never set (R26). -/
abbrev State.reservedClear (s : State) : Prop := s.status &&& 0xC0#8 = 0#8

/-- The receive buffer fits its capacity (R30). -/
abbrev State.bufferFits (s : State) : Prop := Memory.wf s.params.rxbufCap s.rxbuf

/-- An FRO record as R76, R77, R131 and R133 describe it: a candidate of legal length, its length byte and type byte in
place, its kind telling whether its CRC matched. -/
abbrev FroRecord.wf (r : FroRecord) : Prop :=
  Config.minFrame ≤ r.bytes.length ∧ r.bytes.length ≤ Config.maxFrame ∧
    r.bytes.length = (r.bytes.getD 1 0#8).toNat + 2 ∧ r.type = r.bytes.getD 2 0#8 ∧
    (r.kind = .frameOk ↔ validateFrame r.bytes = true)

/-- A frame the validator forwards: legal length, length byte in place, CRC matching (R133). -/
abbrev validFrame (F : List Byte) : Prop :=
  Config.minFrame ≤ F.length ∧ F.length ≤ Config.maxFrame ∧ F.length = (F.getD 1 0#8).toNat + 2 ∧
    validateFrame F = true

/-- The annex unit holds only forwarded frames, and none where it is absent (R133, R200). -/
abbrev State.annexInput (s : State) : Prop :=
  (∀ F ∈ s.tlmIn, validFrame F) ∧ (s.params.hasTlmx = false → s.tlmIn = [])

/-- The invariant of the machine. -/
structure State.Inv (s : State) : Prop where
  legal : s.params.legal
  channels : s.channelsInRange
  reserved : s.reservedClear
  buffer : s.bufferFits
  records : ∀ r ∈ s.fro, r.wf
  annex : s.annexInput

/-- A state the spec asks a model to treat as faulted: the receive buffer has overflowed since reset, and no claim about
later records is meant to hold (R122, R235, U3). -/
abbrev State.overflowed (s : State) : Prop := s.flag .rxovf = true

/-- A state a safe run may pass through. -/
structure State.Safe (s : State) : Prop where
  inv : s.Inv
  noOverflow : ¬ s.overflowed

/-! ### The encodings of `30_encoding.md` R71 and R72, said of every word with a given `op` -/

/-- Format N: the word is the command exactly when `a` and `b` are zero. -/
abbrev wordsN (op : Byte) (i : Instr) : Prop :=
  ∀ w : CmdWord, opField w = op →
    decode (.word w) = if aField w = 0#8 ∧ bField w = 0#8 then .ok i else .error .nonZeroField

/-- Format B: the word is the command with data `b` exactly when `a` is zero. -/
abbrev wordsB (op : Byte) (k : Byte → Instr) : Prop :=
  ∀ w : CmdWord, opField w = op →
    decode (.word w) = if aField w = 0#8 then .ok (k (bField w)) else .error .nonZeroField

/-- Format A: the word is the command with index `a` exactly when `b` is zero. -/
abbrev wordsA (op : Byte) (k : Byte → Instr) : Prop :=
  ∀ w : CmdWord, opField w = op →
    decode (.word w) = if bField w = 0#8 then .ok (k (aField w)) else .error .nonZeroField

/-- Format AB: every word is the command, with index `a` and data `b`. -/
abbrev wordsAB (op : Byte) (k : Byte → Byte → Instr) : Prop :=
  ∀ w : CmdWord, opField w = op → decode (.word w) = .ok (k (aField w) (bField w))

/-! ### The three command sets of `20_memory.md` R61 -/

/-- The paths whose commands commute (R61). -/
inductive Path where
  | rx | tx | crc
  deriving DecidableEq, Repr

/-- The set of R61 a command belongs to, if any. -/
def pathOf : Instr → Option Path
  | .rxpush _ | .rxeval => some .rx
  | .chset _ _ | .txpack | .pldset _ _ | .txwrap | .txsend => some .tx
  | .crcclr | .crcb _ => some .crc
  | .nop | .rdreg _ | .stclr _ | .srst => none
  | .gps _ | .vario _ | .batterySensor _ | .baroAlt _ | .heartbeat _ | .videoTransmitter _ | .linkStatistics _
  | .rcChannelsPacked _ | .attitude _ | .flightMode _ | .deviceInfo _ | .configRead _ | .configWrite _ | .command _
  | .radioId _ => none

/-- The FRAME_OK record of a frame (R76, R133). -/
abbrev okRecord (F : List Byte) : FroRecord := ⟨.frameOk, F.getD 2 0#8, F⟩

/-- The CRC_ERR record of a candidate (R76, R131). -/
abbrev errRecord (F : List Byte) : FroRecord := ⟨.crcErr, F.getD 2 0#8, F⟩

/-- The synchronizer is at rest: its loop has nothing to do until bytes arrive (R134's exit condition). -/
abbrev atRest (m : List Byte) : Prop :=
  m.length ≤ 2 ∨
    (3 ≤ m.length ∧ m.length < expectedLen m ∧ Config.minFrame ≤ expectedLen m ∧ expectedLen m ≤ Config.maxFrame)

end Sys2Proof.Machine
end

