-- ==== Sys2Proof/Certificates/Slice0/Obligations.lean ====
section
/-! DEFINITION. The statements for the provers. `0x0000#16` is the response OK with data 0x00, `0x0100#16` E_RANGE,
`0x0200#16` E_ILLEGAL, `0x0300#16` E_OPERAND, `0x0400#16` E_RXOVF (`60_exceptions.md` R231). -/

open Sys2Proof Sys2Proof.Machine

/-! ### Encoding and the step -/

/-- Decode and encode agree: every instruction, with every operand, is read back from its encoding
(`30_encoding.md` R70 to R73, R79, R85). -/
def Obligations.DecodeOfEncodeIsTheInstruction : Prop :=
  ∀ i : Instr, decode (encode i) = .ok i

/-- Every word and frame that decodes has one meaning: encoding that meaning gives the word or frame back. -/
def Obligations.EncodeOfDecodeIsTheInput : Prop :=
  ∀ (e : Encoded) (i : Instr), decode e = .ok i → encode i = e

/-- A word decodes exactly when a row of the opcode table covers it, and then exactly one row does and it names the
instruction (R72, R74; `opcode_table.json`). -/
def Obligations.WordsDecodeAsTheTableSays : Prop :=
  ∀ w : CmdWord,
    ((∃ i, decode (.word w) = .ok i) ↔ ∃ r ∈ opcodeTable, r.covers w = true) ∧
    (∀ i r, decode (.word w) = .ok i → r ∈ opcodeTable → r.covers w = true → mnemonicOf i = r.mnemonic)

/-- The words the spec writes out decode to the commands it names (R89), and two frames of `95_test_vectors.md` 2.5 to
their packet types. -/
def Obligations.SpecWordsDecodeAsWritten : Prop :=
  decode (.word 0x000000#24) = .ok .nop ∧ decode (.word 0x011200#24) = .ok (.rdreg 0x12#8) ∧
  decode (.word 0x110016#24) = .ok (.crcb 0x16#8) ∧ decode (.word 0x2000C8#24) = .ok (.rxpush 0xC8#8) ∧
  decode (.word 0x300264#24) = .ok (.chset 2#8 100#8) ∧ decode (.word 0x3000FF#24) = .ok (.chset 0#8 0xFF#8) ∧
  decode (.word 0x32157B#24) = .ok (.pldset 21#8 0x7B#8) ∧ decode (.word 0x340000#24) = .ok .txsend ∧
  decode (.frame [0xC8#8, 0x04#8, 0x0B#8, 0x00#8, 0xC8#8, 0xED#8]) =
    .ok (.heartbeat ⟨0xC8#8, 0x04#8, [0x00#8, 0xC8#8], 0xED#8⟩) ∧
  decode (.frame [0xC8#8, 0x04#8, 0x07#8, 0xFF#8, 0xF1#8, 0x0A#8]) =
    .ok (.vario ⟨0xC8#8, 0x04#8, [0xFF#8, 0xF1#8], 0x0A#8⟩)

/-- A step runs the decoded instruction: the oldest word on the command port when no frame waits at the annex unit, else
the oldest frame there (R17, R25, R60; the order between the two is the model's, log 5). -/
def Obligations.StepRunsTheDecodedInstruction : Prop :=
  (∀ (s : State) (w : CmdWord) (ws : List CmdWord) (i : Instr),
    s.por = false → s.tlmIn = [] → s.cmds = w :: ws → decode (.word w) = .ok i →
      step s = exec i { s with cmds := ws }) ∧
  (∀ (s : State) (F : List Byte) (Fs : List (List Byte)) (i : Instr),
    s.por = false → s.tlmIn = F :: Fs → decode (.frame F) = .ok i →
      step s = exec i { s with tlmIn := Fs })

/-- A word that no row of the opcode table covers sets STATUS.ILLCMD, answers E_ILLEGAL and does nothing else; the
rule's three example words are such words (`60_exceptions.md` R233). -/
def Obligations.IllegalWordOnlySetsIllcmd : Prop :=
  (∀ (s : State) (w : CmdWord) (ws : List CmdWord),
    s.por = false → s.tlmIn = [] → s.cmds = w :: ws → (∀ r ∈ opcodeTable, r.covers w = false) →
      step s = .next { s with cmds := ws, status := s.status ||| 0x20#8, resp := s.resp ++ [0x0200#16] }) ∧
  (∀ w ∈ [0x040000#24, 0x210001#24, 0x110100#24, 0x030001#24], ∀ r ∈ opcodeTable, r.covers w = false)

/-! ### Reset -/

/-- The state after power-on reset and after SRST, for every value of the parameters, and the channel registers at the
default parameters (`10_state.md` R34). -/
def Obligations.ResetStateHasTheSpecValues : Prop :=
  (∀ p : Config.Params, ∀ i < 16,
    (State.resetOf p).ch.toList.getD i 0#7 = if i = p.throttleCh then 0#7 else p.stickCenter) ∧
  (∀ p : Config.Params, (State.resetOf p).txp.toList = List.replicate 22 0x00#8 ∧
    (State.resetOf p).crcAcc = 0x00#8 ∧ (State.resetOf p).rxbuf = [] ∧ (State.resetOf p).status = 0x00#8) ∧
  (∀ s : State, ∃ t, exec .srst s = .next t ∧ t.ch = (State.resetOf s.params).ch ∧
    t.txp = (State.resetOf s.params).txp ∧ t.crcAcc = 0x00#8 ∧ t.rxbuf = [] ∧ t.status = 0x00#8) ∧
  (State.resetOf Config.Params.defaults).ch.toList = [50#7, 50#7, 0#7] ++ List.replicate 13 50#7

/-- SRST puts CH, TXP, CRC_ACC, the receive buffer and STATUS at their reset values, answers OK, and retracts nothing
already emitted (`44_system.md` R189). That it also leaves the annex unit's lists as they were, frames still waiting
there among them, is the model's choice (log 14). -/
def Obligations.SrstResetsTheBlock : Prop :=
  wordsN 0x03#8 .srst ∧
  ∀ s : State, exec .srst s = .next { s with
    ch := (State.resetOf s.params).ch, txp := (State.resetOf s.params).txp, crcAcc := 0x00#8, rxbuf := [],
    status := 0x00#8, resp := s.resp ++ [0x0000#16] }

/-- The power-on reset input puts every piece of state at its reset value and empties FRO and TXS
(`70_reset_and_hazards.md` R260). That the response history and the annex's histories start empty too is the model's
choice (log 10) and is not claimed here. -/
def Obligations.PowerOnResetResetsTheBlock : Prop :=
  ∀ s : State, s.por = true → ∃ t, step s = .next t ∧ t.params = s.params ∧
    t.ch = (State.resetOf s.params).ch ∧ t.txp = (State.resetOf s.params).txp ∧ t.crcAcc = 0x00#8 ∧ t.rxbuf = [] ∧
    t.status = 0x00#8 ∧ t.fro = [] ∧ t.txs = []

/-! ### System commands -/

/-- NOP answers OK and leaves the state as it was (`44_system.md` R185). -/
def Obligations.NopOnlyResponds : Prop :=
  wordsN 0x00#8 .nop ∧ ∀ s : State, exec .nop s = .next { s with resp := s.resp ++ [0x0000#16] }

/-- RDREG reads the register of every defined number, changing nothing; a reserved number is an operand error
(`44_system.md` R186). -/
def Obligations.RdregReadsTheRegisterMap : Prop :=
  wordsA 0x01#8 .rdreg ∧
  ∀ s : State,
    exec (.rdreg 0x00#8) s = .next { s with resp := s.resp ++ [(s.status &&& 0x3F#8).zeroExtend 16] } ∧
    exec (.rdreg 0x01#8) s = .next { s with resp := s.resp ++ [s.crcAcc.zeroExtend 16] } ∧
    exec (.rdreg 0x02#8) s = .next { s with resp := s.resp ++ [BitVec.ofNat 16 (min s.rxbuf.length 255)] } ∧
    (∀ i (h : i < 16), exec (.rdreg (BitVec.ofNat 8 (0x10 + i))) s =
      .next { s with resp := s.resp ++ [s.ch[i].zeroExtend 16] }) ∧
    (∀ j (h : j < 22), exec (.rdreg (BitVec.ofNat 8 (0x20 + j))) s =
      .next { s with resp := s.resp ++ [s.txp[j].zeroExtend 16] }) ∧
    (∀ a : Byte, (0x03 ≤ a.toNat ∧ a.toNat ≤ 0x0F) ∨ 0x36 ≤ a.toNat → exec (.rdreg a) s =
      .next { s with status := s.status ||| 0x20#8, resp := s.resp ++ [0x0300#16] })

/-- STCLR clears flag `k` for every set mask bit `k` in 0, 1, 2, 4, 5 and no other bit (`44_system.md` R188). -/
def Obligations.StclrClearsTheClearableFlags : Prop :=
  wordsB 0x02#8 .stclr ∧
  ∀ (b : Byte) (s : State), ∃ t, exec (.stclr b) s = .next t ∧
    t = { s with status := t.status, resp := s.resp ++ [0x0000#16] } ∧
    ∀ k < 8, t.status.getLsbD k = (s.status.getLsbD k && !(b.getLsbD k && [0, 1, 2, 4, 5].contains k))

/-! ### The CRC engine -/

/-- CRCCLR clears the accumulator and nothing else (`40_crc.md` R104). -/
def Obligations.CrcclrClearsTheAccumulator : Prop :=
  wordsN 0x10#8 .crcclr ∧
  ∀ s : State, exec .crcclr s = .next { s with crcAcc := 0x00#8, resp := s.resp ++ [0x0000#16] }

/-- CRCB steps the accumulator by one byte and does nothing else; after CRCCLR and CRCB of every byte of a sequence the
accumulator holds the sequence's CRC (`40_crc.md` R105). -/
def Obligations.CrcbStepsTheAccumulator : Prop :=
  wordsB 0x11#8 .crcb ∧
  (∀ (b : Byte) (s : State), exec (.crcb b) s =
    .next { s with crcAcc := crcStep s.crcAcc b, resp := s.resp ++ [0x0000#16] }) ∧
  (∀ (bs : List Byte) (s : State), execAll (.crcclr :: bs.map .crcb) s =
    .next { s with crcAcc := crc8 bs, resp := s.resp ++ List.replicate (bs.length + 1) 0x0000#16 }) ∧
  crcStep 0x00#8 0x16#8 = 0xD3#8 ∧
  (List.range 8).map (fun n => crcIters (n + 1) 0x16#8) =
    [0x2C#8, 0x58#8, 0xB0#8, 0xB5#8, 0xBF#8, 0xAB#8, 0x83#8, 0xD3#8]

/-- One iteration of the CRC, bit by bit: feedback from bit 7 into bits 0, 2, 4, 6, 7 (`40_crc.md` R102). -/
def Obligations.CrcIterationPerBit : Prop :=
  ∀ x : Byte,
    (crcIter x).getLsbD 0 = x.getLsbD 7 ∧
    (crcIter x).getLsbD 1 = x.getLsbD 0 ∧
    (crcIter x).getLsbD 2 = (x.getLsbD 1 ^^ x.getLsbD 7) ∧
    (crcIter x).getLsbD 3 = x.getLsbD 2 ∧
    (crcIter x).getLsbD 4 = (x.getLsbD 3 ^^ x.getLsbD 7) ∧
    (crcIter x).getLsbD 5 = x.getLsbD 4 ∧
    (crcIter x).getLsbD 6 = (x.getLsbD 5 ^^ x.getLsbD 7) ∧
    (crcIter x).getLsbD 7 = (x.getLsbD 6 ^^ x.getLsbD 7)

/-- The laws of the CRC: empty sequence, zero bytes, bijection in the accumulator, linearity, residue, the check of a
candidate frame by its residue, and order sensitivity (`40_crc.md` R103). -/
def Obligations.CrcLaws : Prop :=
  crc8 [] = 0x00#8 ∧
  (∀ n : Nat, ∀ s : List Byte, crc8 (List.replicate n 0x00#8 ++ s) = crc8 s) ∧
  (∀ d : Byte, Function.Bijective fun acc => crcStep acc d) ∧
  (∀ s t : List Byte, s.length = t.length → crc8 (List.zipWith (· ^^^ ·) s t) = crc8 s ^^^ crc8 t) ∧
  (∀ s : List Byte, crc8 (s ++ [crc8 s]) = 0x00#8) ∧
  (∀ F : List Byte, 4 ≤ F.length → (validateFrame F = true ↔ crc8 (F.drop 2) = 0x00#8)) ∧
  crc8 [0x01#8, 0x02#8] = 0x74#8 ∧ crc8 [0x02#8, 0x01#8] = 0xC3#8

/-! ### The synchronizer and validator -/

/-- RXPUSH into a buffer with room appends the byte, unexamined, and does nothing else (`41_framer.md` R121). -/
def Obligations.RxpushAppendsTheByte : Prop :=
  wordsB 0x20#8 .rxpush ∧
  ∀ (b : Byte) (s : State), s.rxbuf.length < s.params.rxbufCap →
    exec (.rxpush b) s = .next { s with rxbuf := s.rxbuf ++ [b], resp := s.resp ++ [0x0000#16] }

/-- RXPUSH into a full buffer drops the byte, sets RXOVF and answers E_RXOVF; no command but SRST clears RXOVF
(`60_exceptions.md` R235). -/
def Obligations.RxpushOverflowIsKeptUntilReset : Prop :=
  (∀ (b : Byte) (s : State), s.rxbuf.length = s.params.rxbufCap →
    exec (.rxpush b) s = .next { s with status := s.status ||| 0x08#8, resp := s.resp ++ [0x0400#16] }) ∧
  (∀ (i : Instr) (s : State), s.overflowed → i ≠ .srst → ∃ t, exec i s = .next t ∧ t.overflowed)

/-- RXEVAL with at most two bytes held, or with a legal length not yet complete, only answers OK
(`41_framer.md` R127, R128). -/
def Obligations.RxevalWaitsForMoreBytes : Prop :=
  (∀ s : State, s.rxbuf.length ≤ 2 → exec .rxeval s = .next { s with resp := s.resp ++ [0x0000#16] }) ∧
  (∀ s : State, 2 < s.rxbuf.length → 4 ≤ expectedLen s.rxbuf → expectedLen s.rxbuf ≤ 64 →
    s.rxbuf.length < expectedLen s.rxbuf → exec .rxeval s = .next { s with resp := s.resp ++ [0x0000#16] })

/-- RXEVAL on an impossible length clears the whole buffer, sets TOOLONG (length byte 63 or more) or TOOSHORT (length
byte 0 or 1), and emits nothing (`41_framer.md` R126). -/
def Obligations.RxevalClearsOnAnImpossibleLength : Prop :=
  (∀ s : State, 2 < s.rxbuf.length → 63 ≤ (s.rxbuf.getD 1 0#8).toNat →
    exec .rxeval s = .next { s with rxbuf := [], status := s.status ||| 0x04#8, resp := s.resp ++ [0x0000#16] }) ∧
  (∀ s : State, 2 < s.rxbuf.length → (s.rxbuf.getD 1 0#8).toNat ≤ 1 →
    exec .rxeval s = .next { s with rxbuf := [], status := s.status ||| 0x02#8, resp := s.resp ++ [0x0000#16] })

/-- RXEVAL with a complete candidate in front removes exactly its bytes, reports it as FRAME_OK (forwarding it to the
annex unit where present) or as CRC_ERR with CRCERR set, whatever its first byte and its type, and goes on with the rest
(`41_framer.md` R130, R131, R133). That a forwarded frame waits in a list is the model's choice (log 5). -/
def Obligations.RxevalReportsTheFrontCandidate : Prop :=
  ∀ (s : State) (L : Nat), 2 < s.rxbuf.length → L = (s.rxbuf.getD 1 0#8).toNat + 2 → 4 ≤ L → L ≤ 64 →
    L ≤ s.rxbuf.length →
    (validateFrame (s.rxbuf.take L) = true → exec .rxeval s = exec .rxeval { s with
      rxbuf := s.rxbuf.drop L, fro := s.fro ++ [okRecord (s.rxbuf.take L)],
      tlmIn := if s.params.hasTlmx then s.tlmIn ++ [s.rxbuf.take L] else s.tlmIn }) ∧
    (validateFrame (s.rxbuf.take L) = false → exec .rxeval s = exec .rxeval { s with
      rxbuf := s.rxbuf.drop L, fro := s.fro ++ [errRecord (s.rxbuf.take L)], status := s.status ||| 0x01#8 })

/-- RXEVAL completes from every state; it ends at rest, with at most 63 bytes, after at most `floor(RX_LEN / 4) + 2`
iterations and at most `floor(RX_LEN / 4)` records (`41_framer.md` R134). -/
def Obligations.RxevalEndsAtRestWithinItsBounds : Prop :=
  ∀ s : State, ∃ t rs, exec .rxeval s = .next t ∧ t.fro = s.fro ++ rs ∧ rs.length ≤ s.rxbuf.length / 4 ∧
    atRest t.rxbuf ∧ t.rxbuf.length ≤ 63 ∧
    ∀ n, s.rxbuf.length / 4 + 2 ≤ n → rxLoop n s = rxLoop (s.rxbuf.length / 4 + 2) s

/-- RXEVAL on a buffer an RXEVAL has left changes nothing but the response sequence, in whatever state the rest of the
block is by then (`41_framer.md` R135). -/
def Obligations.RxevalIsIdempotent : Prop :=
  ∀ s t u : State, exec .rxeval s = .next t → u.rxbuf = t.rxbuf →
    exec .rxeval u = .next { u with resp := u.resp ++ [0x0000#16] }

/-- A burst that fits never overflows: from a buffer an RXEVAL has left, pushing `c` bytes with `63 + c <= RXBUF_CAP`
holds them all in order and answers OK to each (`41_framer.md` R137). -/
def Obligations.BurstThatFitsNeverOverflows : Prop :=
  ∀ (s₀ s : State) (ds : List Byte), exec .rxeval s₀ = .next s → 63 + ds.length ≤ s.params.rxbufCap →
    s.rxbuf.length + ds.length ≤ 63 + ds.length ∧
    execAll (ds.map .rxpush) s =
      .next { s with rxbuf := s.rxbuf ++ ds, resp := s.resp ++ List.replicate ds.length 0x0000#16 }

/-- A valid frame followed in the buffer by garbage with length byte 200: the frame is reported, the garbage cleared with
TOOLONG if at least three bytes long and kept if two bytes long (`41_framer.md` R139). -/
def Obligations.ResynchronizationAfterAValidFrame : Prop :=
  ∀ (s : State) (F g : List Byte), validFrame F → s.rxbuf = F ++ g →
    (3 ≤ g.length → g.getD 1 0#8 = 200#8 → ∃ t, exec .rxeval s = .next t ∧ t.rxbuf = [] ∧
      t.fro = s.fro ++ [okRecord F] ∧ t.status = s.status ||| 0x04#8) ∧
    (g.length = 2 → ∃ t, exec .rxeval s = .next t ∧ t.rxbuf = g ∧ t.fro = s.fro ++ [okRecord F] ∧
      t.status = s.status)

/-- On an aligned and error-free stream the reported frames do not depend on where the bursts end: one FRAME_OK record
for each frame, in order, for every split of the bytes into bursts that fit the buffer (`41_framer.md` R136, its last
sentence, under R137's condition). That a burst of no bytes counts as a burst is the model's choice (log 21). -/
def Obligations.AlignedStreamIsReportedForEveryBurstPlacement : Prop :=
  ∀ (s : State) (frames bursts : List (List Byte)),
    s.rxbuf = [] → (∀ F ∈ frames, validFrame F) → bursts.flatten = frames.flatten →
    (∀ c ∈ bursts, 63 + c.length ≤ s.params.rxbufCap) →
    ∃ t, execAll (bursts.flatMap fun c => pseudoExpand (.rxburst c)) s = .next t ∧
      t.rxbuf = [] ∧ t.fro = s.fro ++ frames.map okRecord ∧ t.status = s.status

/-- The frames RXEVAL forwards to the annex unit are exactly those of its FRAME_OK records, in order, and none where the
unit is absent (`41_framer.md` R133; `45_telemetry.md` R200). That they wait in a list is the model's choice (log 5). -/
def Obligations.RxevalForwardsExactlyTheOkFrames : Prop :=
  ∀ s : State, ∃ t rs, exec .rxeval s = .next t ∧ t.fro = s.fro ++ rs ∧
    t.tlmIn = s.tlmIn ++
      (if s.params.hasTlmx then (rs.filter fun r => r.kind == .frameOk).map FroRecord.bytes else []) ∧
    t = { s with rxbuf := t.rxbuf, status := t.status, fro := t.fro, tlmIn := t.tlmIn, resp := s.resp ++ [0x0000#16] }

/-! ### The channel registers, the mapping and the packer -/

/-- CHSET: an index above 15 is an operand error; else a value outside 0..100 is a range error; else the register takes
the value; and nothing else changes (`42_packer.md` R150, R151). -/
def Obligations.ChsetWritesOneChannelInRange : Prop :=
  wordsAB 0x30#8 .chset ∧
  ∀ (a b : Byte) (s : State),
    (15 < a.toNat → exec (.chset a b) s =
      .next { s with status := s.status ||| 0x20#8, resp := s.resp ++ [0x0300#16] }) ∧
    (a.toNat ≤ 15 → b.toInt < 0 ∨ 100 < b.toInt → exec (.chset a b) s =
      .next { s with status := s.status ||| 0x10#8, resp := s.resp ++ [0x0100#16] }) ∧
    (∀ h : a.toNat < 16, 0 ≤ b.toInt → b.toInt ≤ 100 → exec (.chset a b) s =
      .next { s with ch := s.ch.set a.toNat (BitVec.ofNat 7 b.toInt.toNat) h, resp := s.resp ++ [0x0000#16] })

/-- `map_ch` is the exact rational line, truncated once; it stays in `[RC_MIN, RC_MAX]` and fits 11 bits
(`42_packer.md` R152). -/
def Obligations.MapIsTheExactLineTruncated : Prop :=
  ∀ (p : Config.Params) (v : ChanVal), p.legal → v.toNat ≤ 100 →
    ((mapCh p v).toNat : ℤ) =
      ⌊(p.rcMin : ℚ) + ((v.toNat : ℚ) - 0) * ((p.rcMax : ℚ) - (p.rcMin : ℚ)) / (100 - 0)⌋ ∧
    p.rcMin ≤ (mapCh p v).toNat ∧ (mapCh p v).toNat ≤ p.rcMax

/-- The values of `map_ch` at the default parameters, its steps of 19 or 20, and its end points at every legal parameters
(`42_packer.md` R153). -/
def Obligations.MapValuesAtTheDefaults : Prop :=
  ([0, 1, 5, 10, 20, 25, 33, 49, 50, 51, 66, 75, 90, 95, 99, 100].map fun v =>
      (mapCh Config.Params.defaults (BitVec.ofNat 7 v)).toNat) =
    [7, 26, 105, 203, 400, 499, 656, 971, 991, 1011, 1306, 1483, 1779, 1877, 1956, 1976] ∧
  (∀ v < 100,
    (mapCh Config.Params.defaults (BitVec.ofNat 7 (v + 1))).toNat =
      (mapCh Config.Params.defaults (BitVec.ofNat 7 v)).toNat + 19 ∨
    (mapCh Config.Params.defaults (BitVec.ofNat 7 (v + 1))).toNat =
      (mapCh Config.Params.defaults (BitVec.ofNat 7 v)).toNat + 20) ∧
  (∀ p : Config.Params, p.legal → (mapCh p 0#7).toNat = p.rcMin ∧ (mapCh p 100#7).toNat = p.rcMax)

/-- Payload bit `k` is bit `k mod 11` of the value of channel `k / 11`, in byte `k / 8` at bit `k mod 8`
(`20_memory.md` R51). -/
def Obligations.PayloadBitsAreTheChannelBits : Prop :=
  ∀ m : Vector WireVal 16, (pack16 m.toList).length = 22 ∧
    ∀ k < 176, ((pack16 m.toList).getD (k / 8) 0#8).getLsbD (k % 8) =
      (m.toList.getD (k / 11) 0#11).getLsbD (k % 11)

/-- The test-only inverse recovers the sixteen packed values exactly, and so the mapped reset state of every build
(`42_packer.md` R157). -/
def Obligations.UnpackRecoversThePackedValues : Prop :=
  (∀ (m : Vector WireVal 16) (i : Nat) (h : i < 16), unpack16 (pack16 m.toList) i = m[i]) ∧
  (∀ (p : Config.Params) (i : Nat) (h : i < 16),
    unpack16 (packChannels (State.resetOf p)).toList i = mapCh p ((State.resetOf p).ch[i]))

/-- TXPACK writes the packed channels to all 22 payload registers and does nothing else; repeating it with unchanged
channels writes the same bytes (`42_packer.md` R156). -/
def Obligations.TxpackWritesThePackedChannels : Prop :=
  wordsN 0x31#8 .txpack ∧
  ∀ s : State, ∃ t, exec .txpack s = .next t ∧
    t = { s with txp := t.txp, resp := s.resp ++ [0x0000#16] } ∧
    t.txp.toList = pack16 (s.ch.toList.map (mapCh s.params)) ∧
    exec .txpack t = .next { t with resp := t.resp ++ [0x0000#16] }

/-! ### The wrapper -/

/-- PLDSET: an index above 21 is an operand error; else the payload register takes the byte, and nothing else changes
(`43_wrapper.md` R174). -/
def Obligations.PldsetWritesOnePayloadRegister : Prop :=
  wordsAB 0x32#8 .pldset ∧
  ∀ (a b : Byte) (s : State),
    (21 < a.toNat → exec (.pldset a b) s =
      .next { s with status := s.status ||| 0x20#8, resp := s.resp ++ [0x0300#16] }) ∧
    (∀ h : a.toNat < 22, exec (.pldset a b) s =
      .next { s with txp := s.txp.set a.toNat b h, resp := s.resp ++ [0x0000#16] })

/-- TXWRAP emits `C8 18 16`, the 22 payload registers and their CRC, `last` on the 26th byte only, and writes no state
(`43_wrapper.md` R175). -/
def Obligations.TxwrapEmitsTheWrappedPayload : Prop :=
  wordsN 0x33#8 .txwrap ∧
  ∀ (s : State) (F : List Byte),
    F = [0xC8#8, 0x18#8, 0x16#8] ++ s.txp.toList ++ [crc8 (0x16#8 :: s.txp.toList)] →
    exec .txwrap s = .next { s with
      txs := s.txs ++ (List.range 26).map (fun k => ⟨F.getD k 0#8, k == 25⟩), resp := s.resp ++ [0x0000#16] }

/-- TXSEND has the effect of TXPACK then TXWRAP, with one response, and repeating it emits the same frame again
(`43_wrapper.md` R176). -/
def Obligations.TxsendIsTxpackThenTxwrap : Prop :=
  wordsN 0x34#8 .txsend ∧
  ∀ s : State, ∃ t₁ t₂ t, exec .txpack s = .next t₁ ∧ exec .txwrap t₁ = .next t₂ ∧ exec .txsend s = .next t ∧
    t = { t₂ with resp := s.resp ++ [0x0000#16] } ∧ t.ch = s.ch ∧
    ∃ items u, t.txs = s.txs ++ items ∧ items.length = 26 ∧ exec .txsend t = .next u ∧ u.txs = t.txs ++ items

/-- Every frame the wrapper builds is well-formed and passes the validator, and fed back it is reported as FRAME_OK of
type 0x16 (`43_wrapper.md` R172). That the frame then waits in a list at the annex unit is the model's choice (log 5). -/
def Obligations.BuiltFrameValidatesAndLoopsBack : Prop :=
  ∀ (P : Vector Byte 22) (F : List Byte), F = encodeRcFrame P →
    F.getD 0 0#8 = 0xC8#8 ∧ (F.getD 1 0#8).toNat + 2 = 26 ∧ F.length = 26 ∧ validateFrame F = true ∧
    ∀ s : State, exec .rxeval { s with rxbuf := F } = .next { s with
      rxbuf := [], fro := s.fro ++ [⟨.frameOk, 0x16#8, F⟩],
      tlmIn := if s.params.hasTlmx then s.tlmIn ++ [F] else s.tlmIn, resp := s.resp ++ [0x0000#16] }

/-! ### Rules about the whole machine -/

/-- Commands of two different sets among RXSET, TXSET and CRCSET commute: same final state, same outputs, same response
to each (`20_memory.md` R61). -/
def Obligations.CommandsOfDifferentPathsCommute : Prop :=
  ∀ (i j : Instr) (p q : Path) (s : State), pathOf i = some p → pathOf j = some q → p ≠ q →
    ∃ a b t u ri rj, exec i s = .next a ∧ exec j a = .next t ∧ exec j s = .next b ∧ exec i b = .next u ∧
      t.resp = s.resp ++ [ri, rj] ∧ u.resp = s.resp ++ [rj, ri] ∧ u = { t with resp := u.resp }

/-- A command that answers an error code has changed nothing but the one flag its rule names, RANGE for E_RANGE, ILLCMD
for E_OPERAND, RXOVF for E_RXOVF, and its response data is 0x00 (`60_exceptions.md` R237; the fourth code, E_ILLEGAL, is a
word's and has its own statement, `IllegalWordOnlySetsIllcmd`). -/
def Obligations.ErrorsChangeOnlyOneFlag : Prop :=
  ∀ (i : Instr) (s : State), packetOf i = none → ∃ t r, exec i s = .next t ∧ t.resp = s.resp ++ [r] ∧
    (r.extractLsb' 8 8 ≠ 0x00#8 →
      ∃ q ∈ [(Flag.range, 0x0100#16), (.illcmd, 0x0300#16), (.rxovf, 0x0400#16)], r = q.2 ∧
        t = { s with status := s.status ||| flagMask q.1, resp := s.resp ++ [q.2] })

/-- Every command answers exactly one response; its data byte is the register's value for a successful RDREG and 0x00
for every other command and for every error; a packet type answers none (`30_encoding.md` R75). -/
def Obligations.EveryCommandAnswersOneResponse : Prop :=
  (∀ (i : Instr) (s : State), packetOf i = none → ∃ t rc rd, exec i s = .next t ∧
    t.resp = s.resp ++ [respNumber rc ++ rd] ∧
    (∀ a v, i = .rdreg a → readRegister a s = some v → rc = .ok ∧ rd = v) ∧
    ((∃ a v, i = .rdreg a ∧ readRegister a s = some v) ∨ rd = 0x00#8)) ∧
  (∀ (i : Instr) (s : State), packetOf i ≠ none → ∃ t, exec i s = .next t ∧ t.resp = s.resp)

/-- FRO and TXS start empty; they and the response sequence are only ever appended to, by SRST too (`10_state.md` R33). -/
def Obligations.OutputsAreOnlyAppendedTo : Prop :=
  (∀ p : Config.Params, (State.resetOf p).fro = [] ∧ (State.resetOf p).txs = []) ∧
  (∀ (i : Instr) (s : State), ∃ t, exec i s = .next t ∧ s.fro <+: t.fro ∧ s.txs <+: t.txs ∧ s.resp <+: t.resp)

/-- Each register file, STATUS, the buffer and each output changes only by its own commands; a command appends one
response and a packet type none; parameters and inputs never change (`10_state.md` R20, R21, R26, R27, R29, R31, R33;
`30_encoding.md` R75). That the annex unit's frames wait in a list is the model's choice (log 5), and so is that SRST
leaves the annex's lists as they were (log 14). -/
def Obligations.StateChangesOnlyByItsOwnCommands : Prop :=
  ∀ (i : Instr) (s t : State), exec i s = .next t →
    (t.ch ≠ s.ch → (∃ a b, i = .chset a b) ∨ i = .srst) ∧
    (t.txp ≠ s.txp → i = .txpack ∨ (∃ a b, i = .pldset a b) ∨ i = .txsend ∨ i = .srst) ∧
    (t.crcAcc ≠ s.crcAcc → i = .crcclr ∨ (∃ b, i = .crcb b) ∨ i = .srst) ∧
    (t.rxbuf ≠ s.rxbuf → (∃ b, i = .rxpush b) ∨ i = .rxeval ∨ i = .srst) ∧
    (t.status ≠ s.status → (∃ a, i = .rdreg a) ∨ (∃ b, i = .stclr b) ∨ i = .srst ∨ (∃ b, i = .rxpush b) ∨
      i = .rxeval ∨ (∃ a b, i = .chset a b) ∨ ∃ a b, i = .pldset a b) ∧
    (packetOf i = none → ∃ r, t.resp = s.resp ++ [r]) ∧ (packetOf i ≠ none → t.resp = s.resp) ∧
    (t.fro ≠ s.fro → i = .rxeval) ∧
    (t.tlmIn ≠ s.tlmIn → i = .rxeval) ∧
    (t.txs ≠ s.txs → i = .txwrap ∨ i = .txsend) ∧
    (t.tlm ≠ s.tlm ∨ t.tlmRefused ≠ s.tlmRefused → packetOf i ≠ none) ∧
    (packetOf i ≠ none → t = { s with tlm := t.tlm, tlmRefused := t.tlmRefused }) ∧
    t.params = s.params ∧ t.por = s.por ∧ t.cmds = s.cmds

/-- Flags are sticky: a flag set before an instruction other than SRST is set after it, unless the instruction is an
STCLR whose mask has its bit, and never then for RXOVF (`10_state.md` R26). -/
def Obligations.FlagsAreSticky : Prop :=
  ∀ (i : Instr) (s : State) (f : Flag), i ≠ .srst → s.flag f = true → ∃ t, exec i s = .next t ∧
    (t.flag f = true ∨ ∃ b, i = .stclr b ∧ b.getLsbD (flagBit f) = true ∧ f ≠ .rxovf)

/-- No instruction reads a flag to decide what it does: changing STATUS beforehand changes nothing afterwards but STATUS
itself and the response of an RDREG of STATUS (`10_state.md` R26). -/
def Obligations.FlagsNeverDecideAnything : Prop :=
  ∀ (i : Instr) (s : State) (x : Byte), ∃ t u, exec i s = .next t ∧ exec i { s with status := x } = .next u ∧
    u = { t with status := u.status, resp := u.resp } ∧ (i ≠ .rdreg 0x00#8 → u.resp = t.resp)

/-- Every step keeps the invariant: legal parameters, channels in `[STICK_MINIMUM, STICK_MAXIMUM]`, STATUS bits 7:6
clear, the buffer within its capacity, every FRO record of the form the rules give it, only validated frames at the annex
unit (`10_state.md` R22, R26, R30; `30_encoding.md` R76). That frames wait there in a list, and that there are none in a
build without the unit, is the model's choice (logs 5 and 6). -/
def Obligations.StepKeepsTheInvariant : Prop :=
  ∀ s t : State, s.Inv → step s = .next t → t.Inv

/-- The reset state of every legal build meets the invariant, `State.reset` among them. -/
def Obligations.ResetMeetsTheInvariant : Prop :=
  (∀ p : Config.Params, p.legal → (State.resetOf p).Inv) ∧ State.reset.Inv

/-- The step never stops: every state has a next state (`00_scope.md` R17; `60_exceptions.md` R242). That a step with
nothing to take leaves the state as it is is the model's choice (log 3). -/
def Obligations.EveryStepHasANextState : Prop :=
  ∀ s : State, ∃ t, step s = .next t

/-! ### The annex unit -/

/-- GPS (`45_telemetry.md` R203): payload byte 0 is frame byte 3. -/
def Obligations.GpsFrameGivesItsRecord : Prop :=
  (∀ (f : Frame) (s : State) (p : Nat → Byte), (p = fun i => f.payload.getD i 0#8) → s.params.hasTlmx = true →
    15 ≤ f.payload.length →
    exec (.gps f) s = .next { s with tlm := s.tlm ++ [.gps
      ⟨(p 0 ++ p 1 ++ p 2 ++ p 3).toInt, 10000000⟩ ⟨(p 4 ++ p 5 ++ p 6 ++ p 7).toInt, 10000000⟩
      ⟨(p 8 ++ p 9).toInt, 36⟩ ⟨(p 10 ++ p 11).toInt, 100⟩ ((p 12 ++ p 13).toInt - 1000) (p 14).toNat] }) ∧
  tlmDecode 0x02#8 [0xC8#8, 0x11#8, 0x02#8, 0x05#8, 0xF5#8, 0xE1#8, 0x00#8, 0xFD#8, 0x05#8, 0x0F#8, 0x80#8, 0x0E#8,
      0x10#8, 0x23#8, 0x28#8, 0x05#8, 0xDC#8, 0x0C#8, 0xF2#8] =
    some (.gps ⟨100000000, 10000000⟩ ⟨-50000000, 10000000⟩ ⟨3600, 36⟩ ⟨9000, 100⟩ 500 12)

/-- VARIO (`45_telemetry.md` R204). -/
def Obligations.VarioFrameGivesItsRecord : Prop :=
  (∀ (f : Frame) (s : State) (p : Nat → Byte), (p = fun i => f.payload.getD i 0#8) → s.params.hasTlmx = true →
    2 ≤ f.payload.length →
    exec (.vario f) s = .next { s with tlm := s.tlm ++ [.vario ⟨(p 0 ++ p 1).toInt, 10⟩] }) ∧
  tlmDecode 0x07#8 [0xC8#8, 0x04#8, 0x07#8, 0xFF#8, 0xF1#8, 0x0A#8] = some (.vario ⟨-15, 10⟩)

/-- ATTITUDE (`45_telemetry.md` R205). -/
def Obligations.AttitudeFrameGivesItsRecord : Prop :=
  (∀ (f : Frame) (s : State) (p : Nat → Byte), (p = fun i => f.payload.getD i 0#8) → s.params.hasTlmx = true →
    6 ≤ f.payload.length →
    exec (.attitude f) s = .next { s with tlm := s.tlm ++ [.attitude
      ⟨(p 0 ++ p 1).toInt, 10000⟩ ⟨(p 2 ++ p 3).toInt, 10000⟩ ⟨(p 4 ++ p 5).toInt, 10000⟩] }) ∧
  tlmDecode 0x1E#8 [0xC8#8, 0x08#8, 0x1E#8, 0x06#8, 0xD1#8, 0xF2#8, 0x5D#8, 0x7A#8, 0xB8#8, 0x6B#8] =
    some (.attitude ⟨1745, 10000⟩ ⟨-3491, 10000⟩ ⟨31416, 10000⟩)

/-- BARO_ALT (`45_telemetry.md` R206). -/
def Obligations.BaroAltFrameGivesItsRecord : Prop :=
  (∀ (f : Frame) (s : State) (p : Nat → Byte), (p = fun i => f.payload.getD i 0#8) → s.params.hasTlmx = true →
    4 ≤ f.payload.length →
    exec (.baroAlt f) s = .next { s with tlm := s.tlm ++ [.baroAlt ⟨(p 0 ++ p 1 ++ p 2 ++ p 3).toInt, 100⟩] }) ∧
  tlmDecode 0x09#8 [0xC8#8, 0x06#8, 0x09#8, 0x00#8, 0x00#8, 0x30#8, 0x39#8, 0x22#8] = some (.baroAlt ⟨12345, 100⟩)

/-- LINK_STATISTICS (`45_telemetry.md` R207). -/
def Obligations.LinkStatisticsFrameGivesItsRecord : Prop :=
  (∀ (f : Frame) (s : State) (p : Nat → Byte), (p = fun i => f.payload.getD i 0#8) → s.params.hasTlmx = true →
    4 ≤ f.payload.length →
    exec (.linkStatistics f) s = .next { s with tlm := s.tlm ++ [.linkStatistics
      (p 0).toInt (p 1).toInt (p 2).toNat (p 3).toInt] }) ∧
  tlmDecode 0x14#8 [0xC8#8, 0x06#8, 0x14#8, 0xC4#8, 0x9C#8, 0x64#8, 0xFB#8, 0x7C#8] =
    some (.linkStatistics (-60) (-100) 100 (-5))

/-- BATTERY_SENSOR (`45_telemetry.md` R208): the capacity's middle byte is shifted by 7 and the three terms are combined
by OR; the rule's worked values. -/
def Obligations.BatterySensorFrameGivesItsRecord : Prop :=
  (∀ (f : Frame) (s : State) (p : Nat → Byte), (p = fun i => f.payload.getD i 0#8) → s.params.hasTlmx = true →
    8 ≤ f.payload.length →
    exec (.batterySensor f) s = .next { s with tlm := s.tlm ++ [.batterySensor
      ⟨(p 0 ++ p 1).toInt, 10⟩ ⟨(p 2 ++ p 3).toInt, 10⟩
      (((p 4).toNat * 65536) ||| ((p 5).toNat * 128) ||| (p 6).toNat) (p 7).toNat] }) ∧
  tlmDecode 0x08#8 [0xC8#8, 0x0A#8, 0x08#8, 0x00#8, 0xA8#8, 0xFF#8, 0xE7#8, 0x01#8, 0x02#8, 0x03#8, 0x57#8, 0x23#8] =
    some (.batterySensor ⟨168, 10⟩ ⟨-25, 10⟩ 65795 87) ∧
  consumedCapacity [0xC8#8, 0x0A#8, 0x08#8, 0x00#8, 0xA8#8, 0xFF#8, 0xE7#8, 0x00#8, 0x01#8, 0x80#8, 0x57#8, 0x80#8] = 128

/-- The nine recognised types without an action are consumed without error, change nothing and give no record
(`45_telemetry.md` R209). -/
def Obligations.NoActionTypesProduceNoRecord : Prop :=
  ∀ (f : Frame) (s : State),
    exec (.heartbeat f) s = .next s ∧ exec (.videoTransmitter f) s = .next s ∧
    exec (.rcChannelsPacked f) s = .next s ∧ exec (.flightMode f) s = .next s ∧ exec (.deviceInfo f) s = .next s ∧
    exec (.configRead f) s = .next s ∧ exec (.configWrite f) s = .next s ∧ exec (.command f) s = .next s ∧
    exec (.radioId f) s = .next s ∧
    ∀ t ∈ [0x0B#8, 0x0F#8, 0x16#8, 0x21#8, 0x29#8, 0x2C#8, 0x2D#8, 0x3A#8, 0x32#8], ∀ F, tlmDecode t F = none

/-- A frame of one of the 241 type bytes outside the enumeration is consumed without error and gives no record
(`45_telemetry.md` R210). That a waiting frame is taken in one step, before any waiting word, is the model's choice
(log 5). -/
def Obligations.UnknownTypesAreConsumed : Prop :=
  (∀ (s : State) (F : List Byte) (Fs : List (List Byte)), s.por = false → s.tlmIn = F :: Fs →
    packetOfTag (F.getD 2 0#8) = none → step s = .next { s with tlmIn := Fs } ∧ tlmDecode (F.getD 2 0#8) F = none) ∧
  ((List.range 256).filter fun t => packetOfTag (BitVec.ofNat 8 t) == none).length = 241

/-- A frame of a decoded type that is too short for its fields gives no record; the lengths are 19 (GPS), 6, 12, 8, 8 and
10 bytes (`45_telemetry.md` R211). That the frame is put in the list of refused frames is the model's form of the rule's
mark (log 7). -/
def Obligations.ShortFramesGiveNoRecord : Prop :=
  (∀ (q : Config.PacketType) (h : Nat) (r : List Byte → TelemetryRecord) (f : Frame) (s : State),
    packetRecord q = some (h, r) → s.params.hasTlmx = true → (f.bytes (packetTag q)).length < h + 2 →
      exec (packetInstr q f) s = .next { s with tlmRefused := s.tlmRefused ++ [f.bytes (packetTag q)] } ∧
      tlmDecode (packetTag q) (f.bytes (packetTag q)) = none) ∧
  [Config.PacketType.gps, .vario, .batterySensor, .baroAlt, .linkStatistics, .attitude].map
    (fun q => (packetRecord q).map fun hr => hr.1 + 2) = [some 19, some 6, some 12, some 8, some 8, some 10]

/-- The annex unit takes the oldest forwarded frame and delivers exactly what `tlm_decode` gives for it
(`45_telemetry.md` R200); all else but its pending list and its mark of refused frames stays. That a step takes one
waiting frame, before any waiting word, is the model's choice (log 5), and so is the list of refused frames (log 7). -/
def Obligations.AnnexStepDeliversTheDecodedRecord : Prop :=
  ∀ (s : State) (F : List Byte) (Fs : List (List Byte)), s.por = false → s.params.hasTlmx = true →
    s.tlmIn = F :: Fs → 4 ≤ F.length → ∃ t, step s = .next t ∧
      t.tlm = s.tlm ++ (tlmDecode (F.getD 2 0#8) F).toList ∧
      t = { s with tlmIn := Fs, tlm := t.tlm, tlmRefused := t.tlmRefused }

/-- In a build without the annex unit a packet type has no effect (`00_scope.md` R6; `45_telemetry.md` R200). That such
a frame is then simply dropped is the model's choice (log 6). -/
def Obligations.AbsentAnnexDoesNothing : Prop :=
  ∀ (q : Config.PacketType) (f : Frame) (s : State), s.params.hasTlmx = false → exec (packetInstr q f) s = .next s
end

