-- ==== Sys2Proof/Laws/Crc.lean ====
section
/-! SUPPORT. The CRC's small lemmas (`40_crc.md`): one iteration and one byte step are linear over XOR, so a whole
sequence is handled by its accumulator. -/

namespace Sys2Proof.Machine

/-- One iteration is linear (R102). -/
theorem crcIter_xor (x y : Byte) : crcIter (x ^^^ y) = crcIter x ^^^ crcIter y := by
  have hs : (x ^^^ y) <<< 1 = (x <<< 1) ^^^ (y <<< 1) := BitVec.shiftLeft_xor_distrib x y 1
  unfold crcIter
  rw [hs, BitVec.getLsbD_xor]
  cases x.getLsbD 7 <;> cases y.getLsbD 7 <;> simp [BitVec.xor_assoc, BitVec.xor_comm Config.crcPoly]

/-- Any number of iterations is linear. -/
theorem crcIters_xor (n : Nat) (x y : Byte) : crcIters n (x ^^^ y) = crcIters n x ^^^ crcIters n y := by
  induction n generalizing x y with
  | zero => rfl
  | succ n ih => simp only [crcIters, crcIter_xor, ih]

/-- One byte step is linear in accumulator and data together. -/
theorem crcStep_xor (a b d e : Byte) : crcStep (a ^^^ b) (d ^^^ e) = crcStep a d ^^^ crcStep b e := by
  have : (a ^^^ b) ^^^ (d ^^^ e) = (a ^^^ d) ^^^ (b ^^^ e) := by ac_rfl
  simp only [crcStep, this, crcIters_xor]

/-- A byte equal to the accumulator takes it to zero. -/
@[simp] theorem crcStep_self (a : Byte) : crcStep a a = 0#8 := by
  simp [crcStep, show crcIters 8 0#8 = 0#8 by decide]

@[simp] theorem crcStep_zero : crcStep 0#8 0#8 = 0#8 := by decide

@[simp] theorem crc8_nil : crc8 [] = 0#8 := rfl

/-- A CRC goes on from the accumulator of what came before (R101). -/
theorem crc8_append (s t : List Byte) : crc8 (s ++ t) = t.foldl crcStep (crc8 s) := by
  simp [crc8, List.foldl_append]

end Sys2Proof.Machine
end

