-- ==== Sys2Proof/Laws/Decode.lean ====
section
/-! SUPPORT. The small lemmas of decoding: the fields of a word and the word of its fields, the frame's bytes. -/

namespace Sys2Proof

/-- The bits of a word made of fields: `b` lowest, `op` highest (R70). -/
theorem mkWord_getLsbD (op a b : Byte) (i : Nat) : (mkWord op a b).getLsbD i =
    (if i < 8 then b.getLsbD i else if i < 16 then a.getLsbD (i - 8) else op.getLsbD (i - 16)) := by
  show ((op ++ a) ++ b).getLsbD i = _
  rw [BitVec.getLsbD_append, BitVec.getLsbD_append]
  split
  · simp_all
  · by_cases h : i < 16
    · simp [h, show i - 8 < 8 by omega]
    · simp [h, show ¬ i - 8 < 8 by omega, Nat.sub_sub]

@[simp] theorem opField_mkWord (op a b : Byte) : opField (mkWord op a b) = op := by
  ext i hi
  have h : ¬ 16 + i < 8 := by omega
  simp [opField, mkWord_getLsbD, hi, h]

@[simp] theorem aField_mkWord (op a b : Byte) : aField (mkWord op a b) = a := by
  ext i hi
  have h : 8 + i < 16 := by omega
  simp [aField, mkWord_getLsbD, hi, h]

@[simp] theorem bField_mkWord (op a b : Byte) : bField (mkWord op a b) = b := by
  ext i hi
  simp [bField, mkWord_getLsbD, hi]

/-- A word is made of its fields (R70). -/
theorem mkWord_fields (w : CmdWord) : mkWord (opField w) (aField w) (bField w) = w := by
  apply BitVec.eq_of_getLsbD_eq
  intro i hi
  rw [mkWord_getLsbD]
  simp only [opField, aField, bField, BitVec.getLsbD_extractLsb']
  split
  · simp [*]
  · split
    · simp [show i - 8 < 8 by omega, show 8 + (i - 8) = i by omega]
    · simp [show i - 16 < 8 by omega, show 16 + (i - 16) = i by omega]

/-- Two words with the same fields are the same word (R70). -/
theorem word_ext {w v : CmdWord} (h₁ : opField w = opField v) (h₂ : aField w = aField v)
    (h₃ : bField w = bField v) : w = v := by
  rw [← mkWord_fields w, ← mkWord_fields v, h₁, h₂, h₃]

/-- Masking a word masks its fields. -/
theorem mkWord_and (op a b op' a' b' : Byte) :
    mkWord op a b &&& mkWord op' a' b' = mkWord (op &&& op') (a &&& a') (b &&& b') := by
  apply BitVec.eq_of_getLsbD_eq
  intro i hi
  simp only [BitVec.getLsbD_and, mkWord_getLsbD]
  split
  · rfl
  · split <;> rfl

/-- A row whose mask and value are made of fields covers the words whose fields agree under the mask. -/
theorem covers_mkWord (m : String) (v mo ma mb op a b : Byte) (h : op &&& mo = v) (ha : a &&& ma = 0#8)
    (hb : b &&& mb = 0#8) : (OpcodeRow.mk m (mkWord v 0#8 0#8) (mkWord mo ma mb)).covers (mkWord op a b) = true := by
  simp [OpcodeRow.covers, mkWord_and, h, ha, hb]

/-- Each tag names its packet type (R85: the fifteen values differ). -/
@[simp] theorem packetOfTag_packetTag (p : Config.PacketType) : packetOfTag (packetTag p) = some p := by
  cases p <;> decide

/-- A byte that names a packet type is its tag. -/
theorem packetTag_of_packetOfTag {t : Byte} {p : Config.PacketType} (h : packetOfTag t = some p) :
    packetTag p = t := by
  have := List.find?_some h
  simpa using this

@[simp] theorem packetOf_packetInstr (p : Config.PacketType) (f : Frame) : packetOf (packetInstr p f) = some (p, f) := by
  cases p <;> rfl

/-- An instruction that stands for a frame is the one its packet type gives. -/
theorem packetInstr_of_packetOf {i : Instr} {p : Config.PacketType} {f : Frame} (h : packetOf i = some (p, f)) :
    i = packetInstr p f := by
  cases i <;> simp_all [packetOf, packetInstr] <;> (obtain ⟨rfl, rfl⟩ := h; rfl)

@[simp] theorem encode_packetInstr (p : Config.PacketType) (f : Frame) :
    encode (packetInstr p f) = .frame (f.bytes (packetTag p)) := by
  cases p <;> rfl

@[simp] theorem Frame.bytes_length (t : Byte) (f : Frame) : (f.bytes t).length = f.payload.length + 4 := by
  simp [Frame.bytes]

/-- The bytes of a frame are four or more, in R79's order. -/
theorem Frame.bytes_eq (t : Byte) (f : Frame) : f.bytes t = f.sync :: f.len :: t :: (f.payload ++ [f.crc]) := by
  simp [Frame.bytes]

@[simp] theorem Frame.bytes_type (t : Byte) (f : Frame) : (f.bytes t).getD 2 0#8 = t := by
  simp [Frame.bytes]

end Sys2Proof
end

