-- ==== Sys2Proof/Laws/Flags.lean ====
section
/-! SUPPORT. What each flag computation does to each bit (`10_state.md` R26; `44_system.md` R188). -/

namespace Sys2Proof.Machine

/-- A flag's mask is its bit's (R26). -/
theorem flagMask_eq_twoPow (f : Flag) : flagMask f = BitVec.twoPow 8 (flagBit f) := by cases f <;> decide

/-- Setting a flag sets it and keeps every other flag. -/
theorem hasFlag_withFlag (f g : Flag) (st : Byte) : hasFlag g (withFlag f st) = (hasFlag g st || decide (f = g)) := by
  cases f <;> cases g <;> simp [hasFlag, withFlag, flagMask, flagBit]

/-- Setting flags commutes (R61). -/
theorem withFlag_comm (f g : Flag) (st : Byte) : withFlag f (withFlag g st) = withFlag g (withFlag f st) := by
  simp [withFlag, BitVec.or_assoc, BitVec.or_comm (flagMask f)]

/-- No flag reaches the reserved bits 7:6 (R26). -/
theorem withFlag_reserved (f : Flag) (st : Byte) : withFlag f st &&& 0xC0#8 = st &&& 0xC0#8 := by
  have h : flagMask f &&& 0xC0#8 = 0#8 := by cases f <;> decide
  rw [withFlag, BitVec.and_comm, BitVec.and_or_distrib_left, BitVec.and_comm _ (flagMask f), h, BitVec.or_zero,
    BitVec.and_comm]

/-- STCLR reaches no reserved bit (R188). -/
theorem clearFlags_reserved (b st : Byte) (h : st &&& 0xC0#8 = 0#8) : clearFlags b st &&& 0xC0#8 = 0#8 := by
  rw [clearFlags, BitVec.and_assoc, BitVec.and_comm _ 0xC0#8, ← BitVec.and_assoc, h, BitVec.zero_and]

/-- A flag after STCLR: cleared when its bit is in the mask, but never RXOVF (R188). -/
theorem hasFlag_clearFlags (f : Flag) (b st : Byte) :
    hasFlag f (clearFlags b st) = (hasFlag f st && !(b.getLsbD (flagBit f) && decide (f ≠ .rxovf))) := by
  cases f <;> simp [hasFlag, clearFlags, clearable, flagBit]

end Sys2Proof.Machine
end

