-- ==== Sys2Proof/Laws/Memory.lean ====
section
/-! SUPPORT. The receive buffer's laws (`10_state.md` R30): read after append, the rest kept by removal, the capacity kept
by every operation, the cells in rising address order. -/

namespace Sys2Proof.Machine

@[simp] theorem memAppend_length (b : Byte) (m : List Byte) : (memAppend b m).length = m.length + 1 := by
  simp [memAppend]

@[simp] theorem memRemove_length (k : Nat) (m : List Byte) : (memRemove k m).length = m.length - k := by
  simp [memRemove]

/-- The byte appended is read at index RX_LEN (R16). -/
theorem memRead_memAppend_new (b : Byte) (m : List Byte) : memRead m.length 1 (memAppend b m) = [b] := by
  simp [memRead, memAppend]

/-- An append leaves every byte already held alone (R30). -/
theorem memAppend_getElem? (b : Byte) (m : List Byte) {i : Nat} (h : i < m.length) :
    (memAppend b m)[i]? = m[i]? := by
  simp [memAppend, List.getElem?_append, h]

/-- Removal moves `RXBUF[k ..]` to the front in order (R30). -/
theorem memRemove_getElem? (k i : Nat) (m : List Byte) : (memRemove k m)[i]? = m[k + i]? := by
  simp [memRemove]

/-- A read of the front and its removal cover the content. -/
theorem memRead_append_memRemove (k : Nat) (m : List Byte) : memRead 0 k m ++ memRemove k m = m := by
  simp [memRead, memRemove]

/-- An append into a buffer with room keeps the capacity (R30, R121). -/
theorem memAppend_wf {cap : Nat} {m : List Byte} (b : Byte) (h : m.length < cap) : Memory.wf cap (memAppend b m) := by
  simp [Memory.wf]; omega

/-- A removal keeps the capacity (R30). -/
theorem memRemove_wf {cap : Nat} {m : List Byte} (k : Nat) (h : Memory.wf cap m) : Memory.wf cap (memRemove k m) := by
  simp [Memory.wf] at *; omega

/-- A clear keeps the capacity (R30). -/
theorem nil_wf (cap : Nat) : Memory.wf cap [] := Nat.zero_le _

/-- The reset memory is well-formed (R34). -/
theorem resetOf_wf (p : Config.Params) : Memory.wf p.rxbufCap (State.resetOf p).rxbuf := Nat.zero_le _

/-- The addresses of the cells are the indices, rising from 0: the one canonical form of a content. -/
theorem memCells_addresses (m : List Byte) : (memCells m).map Prod.fst = List.range m.length := by
  apply List.ext_getElem <;> simp [memCells]

/-- Buffers with the same cells are the same buffer. -/
theorem memCells_injective {m n : List Byte} (h : memCells m = memCells n) : m = n := by
  have : (memCells m).map Prod.snd = (memCells n).map Prod.snd := by rw [h]
  have hs : ∀ l : List Byte, (memCells l).map Prod.snd = l := fun l => by
    apply List.ext_getElem <;> simp [memCells]
  simpa [hs] using this

end Sys2Proof.Machine
end

