-- ==== Sys2Proof/Laws/State.lean ====
section
/-! SUPPORT. One lemma per field per update of State, true by rfl, so that no later proof unfolds a record update. -/

namespace Sys2Proof.Machine.State

/-! `setCh` -/

@[simp] theorem setCh_params (v : Vector ChanVal 16) (s : State) : (s.setCh v).params = s.params := rfl
@[simp] theorem setCh_ch (v : Vector ChanVal 16) (s : State) : (s.setCh v).ch = v := rfl
@[simp] theorem setCh_txp (v : Vector ChanVal 16) (s : State) : (s.setCh v).txp = s.txp := rfl
@[simp] theorem setCh_crcAcc (v : Vector ChanVal 16) (s : State) : (s.setCh v).crcAcc = s.crcAcc := rfl
@[simp] theorem setCh_rxbuf (v : Vector ChanVal 16) (s : State) : (s.setCh v).rxbuf = s.rxbuf := rfl
@[simp] theorem setCh_status (v : Vector ChanVal 16) (s : State) : (s.setCh v).status = s.status := rfl
@[simp] theorem setCh_por (v : Vector ChanVal 16) (s : State) : (s.setCh v).por = s.por := rfl
@[simp] theorem setCh_cmds (v : Vector ChanVal 16) (s : State) : (s.setCh v).cmds = s.cmds := rfl
@[simp] theorem setCh_resp (v : Vector ChanVal 16) (s : State) : (s.setCh v).resp = s.resp := rfl
@[simp] theorem setCh_fro (v : Vector ChanVal 16) (s : State) : (s.setCh v).fro = s.fro := rfl
@[simp] theorem setCh_txs (v : Vector ChanVal 16) (s : State) : (s.setCh v).txs = s.txs := rfl
@[simp] theorem setCh_tlmIn (v : Vector ChanVal 16) (s : State) : (s.setCh v).tlmIn = s.tlmIn := rfl
@[simp] theorem setCh_tlm (v : Vector ChanVal 16) (s : State) : (s.setCh v).tlm = s.tlm := rfl
@[simp] theorem setCh_tlmRefused (v : Vector ChanVal 16) (s : State) : (s.setCh v).tlmRefused = s.tlmRefused := rfl

/-! `setTxp` -/

@[simp] theorem setTxp_params (v : Vector Byte 22) (s : State) : (s.setTxp v).params = s.params := rfl
@[simp] theorem setTxp_ch (v : Vector Byte 22) (s : State) : (s.setTxp v).ch = s.ch := rfl
@[simp] theorem setTxp_txp (v : Vector Byte 22) (s : State) : (s.setTxp v).txp = v := rfl
@[simp] theorem setTxp_crcAcc (v : Vector Byte 22) (s : State) : (s.setTxp v).crcAcc = s.crcAcc := rfl
@[simp] theorem setTxp_rxbuf (v : Vector Byte 22) (s : State) : (s.setTxp v).rxbuf = s.rxbuf := rfl
@[simp] theorem setTxp_status (v : Vector Byte 22) (s : State) : (s.setTxp v).status = s.status := rfl
@[simp] theorem setTxp_por (v : Vector Byte 22) (s : State) : (s.setTxp v).por = s.por := rfl
@[simp] theorem setTxp_cmds (v : Vector Byte 22) (s : State) : (s.setTxp v).cmds = s.cmds := rfl
@[simp] theorem setTxp_resp (v : Vector Byte 22) (s : State) : (s.setTxp v).resp = s.resp := rfl
@[simp] theorem setTxp_fro (v : Vector Byte 22) (s : State) : (s.setTxp v).fro = s.fro := rfl
@[simp] theorem setTxp_txs (v : Vector Byte 22) (s : State) : (s.setTxp v).txs = s.txs := rfl
@[simp] theorem setTxp_tlmIn (v : Vector Byte 22) (s : State) : (s.setTxp v).tlmIn = s.tlmIn := rfl
@[simp] theorem setTxp_tlm (v : Vector Byte 22) (s : State) : (s.setTxp v).tlm = s.tlm := rfl
@[simp] theorem setTxp_tlmRefused (v : Vector Byte 22) (s : State) : (s.setTxp v).tlmRefused = s.tlmRefused := rfl

/-! `setCrcAcc` -/

@[simp] theorem setCrcAcc_params (v : Byte) (s : State) : (s.setCrcAcc v).params = s.params := rfl
@[simp] theorem setCrcAcc_ch (v : Byte) (s : State) : (s.setCrcAcc v).ch = s.ch := rfl
@[simp] theorem setCrcAcc_txp (v : Byte) (s : State) : (s.setCrcAcc v).txp = s.txp := rfl
@[simp] theorem setCrcAcc_crcAcc (v : Byte) (s : State) : (s.setCrcAcc v).crcAcc = v := rfl
@[simp] theorem setCrcAcc_rxbuf (v : Byte) (s : State) : (s.setCrcAcc v).rxbuf = s.rxbuf := rfl
@[simp] theorem setCrcAcc_status (v : Byte) (s : State) : (s.setCrcAcc v).status = s.status := rfl
@[simp] theorem setCrcAcc_por (v : Byte) (s : State) : (s.setCrcAcc v).por = s.por := rfl
@[simp] theorem setCrcAcc_cmds (v : Byte) (s : State) : (s.setCrcAcc v).cmds = s.cmds := rfl
@[simp] theorem setCrcAcc_resp (v : Byte) (s : State) : (s.setCrcAcc v).resp = s.resp := rfl
@[simp] theorem setCrcAcc_fro (v : Byte) (s : State) : (s.setCrcAcc v).fro = s.fro := rfl
@[simp] theorem setCrcAcc_txs (v : Byte) (s : State) : (s.setCrcAcc v).txs = s.txs := rfl
@[simp] theorem setCrcAcc_tlmIn (v : Byte) (s : State) : (s.setCrcAcc v).tlmIn = s.tlmIn := rfl
@[simp] theorem setCrcAcc_tlm (v : Byte) (s : State) : (s.setCrcAcc v).tlm = s.tlm := rfl
@[simp] theorem setCrcAcc_tlmRefused (v : Byte) (s : State) : (s.setCrcAcc v).tlmRefused = s.tlmRefused := rfl

/-! `setRxbuf` -/

@[simp] theorem setRxbuf_params (v : List Byte) (s : State) : (s.setRxbuf v).params = s.params := rfl
@[simp] theorem setRxbuf_ch (v : List Byte) (s : State) : (s.setRxbuf v).ch = s.ch := rfl
@[simp] theorem setRxbuf_txp (v : List Byte) (s : State) : (s.setRxbuf v).txp = s.txp := rfl
@[simp] theorem setRxbuf_crcAcc (v : List Byte) (s : State) : (s.setRxbuf v).crcAcc = s.crcAcc := rfl
@[simp] theorem setRxbuf_rxbuf (v : List Byte) (s : State) : (s.setRxbuf v).rxbuf = v := rfl
@[simp] theorem setRxbuf_status (v : List Byte) (s : State) : (s.setRxbuf v).status = s.status := rfl
@[simp] theorem setRxbuf_por (v : List Byte) (s : State) : (s.setRxbuf v).por = s.por := rfl
@[simp] theorem setRxbuf_cmds (v : List Byte) (s : State) : (s.setRxbuf v).cmds = s.cmds := rfl
@[simp] theorem setRxbuf_resp (v : List Byte) (s : State) : (s.setRxbuf v).resp = s.resp := rfl
@[simp] theorem setRxbuf_fro (v : List Byte) (s : State) : (s.setRxbuf v).fro = s.fro := rfl
@[simp] theorem setRxbuf_txs (v : List Byte) (s : State) : (s.setRxbuf v).txs = s.txs := rfl
@[simp] theorem setRxbuf_tlmIn (v : List Byte) (s : State) : (s.setRxbuf v).tlmIn = s.tlmIn := rfl
@[simp] theorem setRxbuf_tlm (v : List Byte) (s : State) : (s.setRxbuf v).tlm = s.tlm := rfl
@[simp] theorem setRxbuf_tlmRefused (v : List Byte) (s : State) : (s.setRxbuf v).tlmRefused = s.tlmRefused := rfl

/-! `setStatus` -/

@[simp] theorem setStatus_params (v : Byte) (s : State) : (s.setStatus v).params = s.params := rfl
@[simp] theorem setStatus_ch (v : Byte) (s : State) : (s.setStatus v).ch = s.ch := rfl
@[simp] theorem setStatus_txp (v : Byte) (s : State) : (s.setStatus v).txp = s.txp := rfl
@[simp] theorem setStatus_crcAcc (v : Byte) (s : State) : (s.setStatus v).crcAcc = s.crcAcc := rfl
@[simp] theorem setStatus_rxbuf (v : Byte) (s : State) : (s.setStatus v).rxbuf = s.rxbuf := rfl
@[simp] theorem setStatus_status (v : Byte) (s : State) : (s.setStatus v).status = v := rfl
@[simp] theorem setStatus_por (v : Byte) (s : State) : (s.setStatus v).por = s.por := rfl
@[simp] theorem setStatus_cmds (v : Byte) (s : State) : (s.setStatus v).cmds = s.cmds := rfl
@[simp] theorem setStatus_resp (v : Byte) (s : State) : (s.setStatus v).resp = s.resp := rfl
@[simp] theorem setStatus_fro (v : Byte) (s : State) : (s.setStatus v).fro = s.fro := rfl
@[simp] theorem setStatus_txs (v : Byte) (s : State) : (s.setStatus v).txs = s.txs := rfl
@[simp] theorem setStatus_tlmIn (v : Byte) (s : State) : (s.setStatus v).tlmIn = s.tlmIn := rfl
@[simp] theorem setStatus_tlm (v : Byte) (s : State) : (s.setStatus v).tlm = s.tlm := rfl
@[simp] theorem setStatus_tlmRefused (v : Byte) (s : State) : (s.setStatus v).tlmRefused = s.tlmRefused := rfl

/-! `setPor` -/

@[simp] theorem setPor_params (v : Bool) (s : State) : (s.setPor v).params = s.params := rfl
@[simp] theorem setPor_ch (v : Bool) (s : State) : (s.setPor v).ch = s.ch := rfl
@[simp] theorem setPor_txp (v : Bool) (s : State) : (s.setPor v).txp = s.txp := rfl
@[simp] theorem setPor_crcAcc (v : Bool) (s : State) : (s.setPor v).crcAcc = s.crcAcc := rfl
@[simp] theorem setPor_rxbuf (v : Bool) (s : State) : (s.setPor v).rxbuf = s.rxbuf := rfl
@[simp] theorem setPor_status (v : Bool) (s : State) : (s.setPor v).status = s.status := rfl
@[simp] theorem setPor_por (v : Bool) (s : State) : (s.setPor v).por = v := rfl
@[simp] theorem setPor_cmds (v : Bool) (s : State) : (s.setPor v).cmds = s.cmds := rfl
@[simp] theorem setPor_resp (v : Bool) (s : State) : (s.setPor v).resp = s.resp := rfl
@[simp] theorem setPor_fro (v : Bool) (s : State) : (s.setPor v).fro = s.fro := rfl
@[simp] theorem setPor_txs (v : Bool) (s : State) : (s.setPor v).txs = s.txs := rfl
@[simp] theorem setPor_tlmIn (v : Bool) (s : State) : (s.setPor v).tlmIn = s.tlmIn := rfl
@[simp] theorem setPor_tlm (v : Bool) (s : State) : (s.setPor v).tlm = s.tlm := rfl
@[simp] theorem setPor_tlmRefused (v : Bool) (s : State) : (s.setPor v).tlmRefused = s.tlmRefused := rfl

/-! `setCmds` -/

@[simp] theorem setCmds_params (v : List CmdWord) (s : State) : (s.setCmds v).params = s.params := rfl
@[simp] theorem setCmds_ch (v : List CmdWord) (s : State) : (s.setCmds v).ch = s.ch := rfl
@[simp] theorem setCmds_txp (v : List CmdWord) (s : State) : (s.setCmds v).txp = s.txp := rfl
@[simp] theorem setCmds_crcAcc (v : List CmdWord) (s : State) : (s.setCmds v).crcAcc = s.crcAcc := rfl
@[simp] theorem setCmds_rxbuf (v : List CmdWord) (s : State) : (s.setCmds v).rxbuf = s.rxbuf := rfl
@[simp] theorem setCmds_status (v : List CmdWord) (s : State) : (s.setCmds v).status = s.status := rfl
@[simp] theorem setCmds_por (v : List CmdWord) (s : State) : (s.setCmds v).por = s.por := rfl
@[simp] theorem setCmds_cmds (v : List CmdWord) (s : State) : (s.setCmds v).cmds = v := rfl
@[simp] theorem setCmds_resp (v : List CmdWord) (s : State) : (s.setCmds v).resp = s.resp := rfl
@[simp] theorem setCmds_fro (v : List CmdWord) (s : State) : (s.setCmds v).fro = s.fro := rfl
@[simp] theorem setCmds_txs (v : List CmdWord) (s : State) : (s.setCmds v).txs = s.txs := rfl
@[simp] theorem setCmds_tlmIn (v : List CmdWord) (s : State) : (s.setCmds v).tlmIn = s.tlmIn := rfl
@[simp] theorem setCmds_tlm (v : List CmdWord) (s : State) : (s.setCmds v).tlm = s.tlm := rfl
@[simp] theorem setCmds_tlmRefused (v : List CmdWord) (s : State) : (s.setCmds v).tlmRefused = s.tlmRefused := rfl

/-! `addResp` -/

@[simp] theorem addResp_params (v : RespWord) (s : State) : (s.addResp v).params = s.params := rfl
@[simp] theorem addResp_ch (v : RespWord) (s : State) : (s.addResp v).ch = s.ch := rfl
@[simp] theorem addResp_txp (v : RespWord) (s : State) : (s.addResp v).txp = s.txp := rfl
@[simp] theorem addResp_crcAcc (v : RespWord) (s : State) : (s.addResp v).crcAcc = s.crcAcc := rfl
@[simp] theorem addResp_rxbuf (v : RespWord) (s : State) : (s.addResp v).rxbuf = s.rxbuf := rfl
@[simp] theorem addResp_status (v : RespWord) (s : State) : (s.addResp v).status = s.status := rfl
@[simp] theorem addResp_por (v : RespWord) (s : State) : (s.addResp v).por = s.por := rfl
@[simp] theorem addResp_cmds (v : RespWord) (s : State) : (s.addResp v).cmds = s.cmds := rfl
@[simp] theorem addResp_resp (v : RespWord) (s : State) : (s.addResp v).resp = s.resp ++ [v] := rfl
@[simp] theorem addResp_fro (v : RespWord) (s : State) : (s.addResp v).fro = s.fro := rfl
@[simp] theorem addResp_txs (v : RespWord) (s : State) : (s.addResp v).txs = s.txs := rfl
@[simp] theorem addResp_tlmIn (v : RespWord) (s : State) : (s.addResp v).tlmIn = s.tlmIn := rfl
@[simp] theorem addResp_tlm (v : RespWord) (s : State) : (s.addResp v).tlm = s.tlm := rfl
@[simp] theorem addResp_tlmRefused (v : RespWord) (s : State) : (s.addResp v).tlmRefused = s.tlmRefused := rfl

/-! `addFro` -/

@[simp] theorem addFro_params (v : FroRecord) (s : State) : (s.addFro v).params = s.params := rfl
@[simp] theorem addFro_ch (v : FroRecord) (s : State) : (s.addFro v).ch = s.ch := rfl
@[simp] theorem addFro_txp (v : FroRecord) (s : State) : (s.addFro v).txp = s.txp := rfl
@[simp] theorem addFro_crcAcc (v : FroRecord) (s : State) : (s.addFro v).crcAcc = s.crcAcc := rfl
@[simp] theorem addFro_rxbuf (v : FroRecord) (s : State) : (s.addFro v).rxbuf = s.rxbuf := rfl
@[simp] theorem addFro_status (v : FroRecord) (s : State) : (s.addFro v).status = s.status := rfl
@[simp] theorem addFro_por (v : FroRecord) (s : State) : (s.addFro v).por = s.por := rfl
@[simp] theorem addFro_cmds (v : FroRecord) (s : State) : (s.addFro v).cmds = s.cmds := rfl
@[simp] theorem addFro_resp (v : FroRecord) (s : State) : (s.addFro v).resp = s.resp := rfl
@[simp] theorem addFro_fro (v : FroRecord) (s : State) : (s.addFro v).fro = s.fro ++ [v] := rfl
@[simp] theorem addFro_txs (v : FroRecord) (s : State) : (s.addFro v).txs = s.txs := rfl
@[simp] theorem addFro_tlmIn (v : FroRecord) (s : State) : (s.addFro v).tlmIn = s.tlmIn := rfl
@[simp] theorem addFro_tlm (v : FroRecord) (s : State) : (s.addFro v).tlm = s.tlm := rfl
@[simp] theorem addFro_tlmRefused (v : FroRecord) (s : State) : (s.addFro v).tlmRefused = s.tlmRefused := rfl

/-! `addTxs` -/

@[simp] theorem addTxs_params (v : List TxItem) (s : State) : (s.addTxs v).params = s.params := rfl
@[simp] theorem addTxs_ch (v : List TxItem) (s : State) : (s.addTxs v).ch = s.ch := rfl
@[simp] theorem addTxs_txp (v : List TxItem) (s : State) : (s.addTxs v).txp = s.txp := rfl
@[simp] theorem addTxs_crcAcc (v : List TxItem) (s : State) : (s.addTxs v).crcAcc = s.crcAcc := rfl
@[simp] theorem addTxs_rxbuf (v : List TxItem) (s : State) : (s.addTxs v).rxbuf = s.rxbuf := rfl
@[simp] theorem addTxs_status (v : List TxItem) (s : State) : (s.addTxs v).status = s.status := rfl
@[simp] theorem addTxs_por (v : List TxItem) (s : State) : (s.addTxs v).por = s.por := rfl
@[simp] theorem addTxs_cmds (v : List TxItem) (s : State) : (s.addTxs v).cmds = s.cmds := rfl
@[simp] theorem addTxs_resp (v : List TxItem) (s : State) : (s.addTxs v).resp = s.resp := rfl
@[simp] theorem addTxs_fro (v : List TxItem) (s : State) : (s.addTxs v).fro = s.fro := rfl
@[simp] theorem addTxs_txs (v : List TxItem) (s : State) : (s.addTxs v).txs = s.txs ++ v := rfl
@[simp] theorem addTxs_tlmIn (v : List TxItem) (s : State) : (s.addTxs v).tlmIn = s.tlmIn := rfl
@[simp] theorem addTxs_tlm (v : List TxItem) (s : State) : (s.addTxs v).tlm = s.tlm := rfl
@[simp] theorem addTxs_tlmRefused (v : List TxItem) (s : State) : (s.addTxs v).tlmRefused = s.tlmRefused := rfl

/-! `setTlmIn` -/

@[simp] theorem setTlmIn_params (v : List (List Byte)) (s : State) : (s.setTlmIn v).params = s.params := rfl
@[simp] theorem setTlmIn_ch (v : List (List Byte)) (s : State) : (s.setTlmIn v).ch = s.ch := rfl
@[simp] theorem setTlmIn_txp (v : List (List Byte)) (s : State) : (s.setTlmIn v).txp = s.txp := rfl
@[simp] theorem setTlmIn_crcAcc (v : List (List Byte)) (s : State) : (s.setTlmIn v).crcAcc = s.crcAcc := rfl
@[simp] theorem setTlmIn_rxbuf (v : List (List Byte)) (s : State) : (s.setTlmIn v).rxbuf = s.rxbuf := rfl
@[simp] theorem setTlmIn_status (v : List (List Byte)) (s : State) : (s.setTlmIn v).status = s.status := rfl
@[simp] theorem setTlmIn_por (v : List (List Byte)) (s : State) : (s.setTlmIn v).por = s.por := rfl
@[simp] theorem setTlmIn_cmds (v : List (List Byte)) (s : State) : (s.setTlmIn v).cmds = s.cmds := rfl
@[simp] theorem setTlmIn_resp (v : List (List Byte)) (s : State) : (s.setTlmIn v).resp = s.resp := rfl
@[simp] theorem setTlmIn_fro (v : List (List Byte)) (s : State) : (s.setTlmIn v).fro = s.fro := rfl
@[simp] theorem setTlmIn_txs (v : List (List Byte)) (s : State) : (s.setTlmIn v).txs = s.txs := rfl
@[simp] theorem setTlmIn_tlmIn (v : List (List Byte)) (s : State) : (s.setTlmIn v).tlmIn = v := rfl
@[simp] theorem setTlmIn_tlm (v : List (List Byte)) (s : State) : (s.setTlmIn v).tlm = s.tlm := rfl
@[simp] theorem setTlmIn_tlmRefused (v : List (List Byte)) (s : State) : (s.setTlmIn v).tlmRefused = s.tlmRefused := rfl

/-! `addTlm` -/

@[simp] theorem addTlm_params (v : TelemetryRecord) (s : State) : (s.addTlm v).params = s.params := rfl
@[simp] theorem addTlm_ch (v : TelemetryRecord) (s : State) : (s.addTlm v).ch = s.ch := rfl
@[simp] theorem addTlm_txp (v : TelemetryRecord) (s : State) : (s.addTlm v).txp = s.txp := rfl
@[simp] theorem addTlm_crcAcc (v : TelemetryRecord) (s : State) : (s.addTlm v).crcAcc = s.crcAcc := rfl
@[simp] theorem addTlm_rxbuf (v : TelemetryRecord) (s : State) : (s.addTlm v).rxbuf = s.rxbuf := rfl
@[simp] theorem addTlm_status (v : TelemetryRecord) (s : State) : (s.addTlm v).status = s.status := rfl
@[simp] theorem addTlm_por (v : TelemetryRecord) (s : State) : (s.addTlm v).por = s.por := rfl
@[simp] theorem addTlm_cmds (v : TelemetryRecord) (s : State) : (s.addTlm v).cmds = s.cmds := rfl
@[simp] theorem addTlm_resp (v : TelemetryRecord) (s : State) : (s.addTlm v).resp = s.resp := rfl
@[simp] theorem addTlm_fro (v : TelemetryRecord) (s : State) : (s.addTlm v).fro = s.fro := rfl
@[simp] theorem addTlm_txs (v : TelemetryRecord) (s : State) : (s.addTlm v).txs = s.txs := rfl
@[simp] theorem addTlm_tlmIn (v : TelemetryRecord) (s : State) : (s.addTlm v).tlmIn = s.tlmIn := rfl
@[simp] theorem addTlm_tlm (v : TelemetryRecord) (s : State) : (s.addTlm v).tlm = s.tlm ++ [v] := rfl
@[simp] theorem addTlm_tlmRefused (v : TelemetryRecord) (s : State) : (s.addTlm v).tlmRefused = s.tlmRefused := rfl

/-! `addTlmRefused` -/

@[simp] theorem addTlmRefused_params (v : List Byte) (s : State) : (s.addTlmRefused v).params = s.params := rfl
@[simp] theorem addTlmRefused_ch (v : List Byte) (s : State) : (s.addTlmRefused v).ch = s.ch := rfl
@[simp] theorem addTlmRefused_txp (v : List Byte) (s : State) : (s.addTlmRefused v).txp = s.txp := rfl
@[simp] theorem addTlmRefused_crcAcc (v : List Byte) (s : State) : (s.addTlmRefused v).crcAcc = s.crcAcc := rfl
@[simp] theorem addTlmRefused_rxbuf (v : List Byte) (s : State) : (s.addTlmRefused v).rxbuf = s.rxbuf := rfl
@[simp] theorem addTlmRefused_status (v : List Byte) (s : State) : (s.addTlmRefused v).status = s.status := rfl
@[simp] theorem addTlmRefused_por (v : List Byte) (s : State) : (s.addTlmRefused v).por = s.por := rfl
@[simp] theorem addTlmRefused_cmds (v : List Byte) (s : State) : (s.addTlmRefused v).cmds = s.cmds := rfl
@[simp] theorem addTlmRefused_resp (v : List Byte) (s : State) : (s.addTlmRefused v).resp = s.resp := rfl
@[simp] theorem addTlmRefused_fro (v : List Byte) (s : State) : (s.addTlmRefused v).fro = s.fro := rfl
@[simp] theorem addTlmRefused_txs (v : List Byte) (s : State) : (s.addTlmRefused v).txs = s.txs := rfl
@[simp] theorem addTlmRefused_tlmIn (v : List Byte) (s : State) : (s.addTlmRefused v).tlmIn = s.tlmIn := rfl
@[simp] theorem addTlmRefused_tlm (v : List Byte) (s : State) : (s.addTlmRefused v).tlm = s.tlm := rfl
@[simp] theorem addTlmRefused_tlmRefused (v : List Byte) (s : State) : (s.addTlmRefused v).tlmRefused = s.tlmRefused ++ [v] := rfl

/-! `setFlag` -/

@[simp] theorem setFlag_params (v : Flag) (s : State) : (s.setFlag v).params = s.params := rfl
@[simp] theorem setFlag_ch (v : Flag) (s : State) : (s.setFlag v).ch = s.ch := rfl
@[simp] theorem setFlag_txp (v : Flag) (s : State) : (s.setFlag v).txp = s.txp := rfl
@[simp] theorem setFlag_crcAcc (v : Flag) (s : State) : (s.setFlag v).crcAcc = s.crcAcc := rfl
@[simp] theorem setFlag_rxbuf (v : Flag) (s : State) : (s.setFlag v).rxbuf = s.rxbuf := rfl
@[simp] theorem setFlag_status (v : Flag) (s : State) : (s.setFlag v).status = withFlag v s.status := rfl
@[simp] theorem setFlag_por (v : Flag) (s : State) : (s.setFlag v).por = s.por := rfl
@[simp] theorem setFlag_cmds (v : Flag) (s : State) : (s.setFlag v).cmds = s.cmds := rfl
@[simp] theorem setFlag_resp (v : Flag) (s : State) : (s.setFlag v).resp = s.resp := rfl
@[simp] theorem setFlag_fro (v : Flag) (s : State) : (s.setFlag v).fro = s.fro := rfl
@[simp] theorem setFlag_txs (v : Flag) (s : State) : (s.setFlag v).txs = s.txs := rfl
@[simp] theorem setFlag_tlmIn (v : Flag) (s : State) : (s.setFlag v).tlmIn = s.tlmIn := rfl
@[simp] theorem setFlag_tlm (v : Flag) (s : State) : (s.setFlag v).tlm = s.tlm := rfl
@[simp] theorem setFlag_tlmRefused (v : Flag) (s : State) : (s.setFlag v).tlmRefused = s.tlmRefused := rfl

/-! `respond` -/

@[simp] theorem respond_params (c : RespCode) (v : Byte) (s : State) : (respond c v s).params = s.params := rfl
@[simp] theorem respond_ch (c : RespCode) (v : Byte) (s : State) : (respond c v s).ch = s.ch := rfl
@[simp] theorem respond_txp (c : RespCode) (v : Byte) (s : State) : (respond c v s).txp = s.txp := rfl
@[simp] theorem respond_crcAcc (c : RespCode) (v : Byte) (s : State) : (respond c v s).crcAcc = s.crcAcc := rfl
@[simp] theorem respond_rxbuf (c : RespCode) (v : Byte) (s : State) : (respond c v s).rxbuf = s.rxbuf := rfl
@[simp] theorem respond_status (c : RespCode) (v : Byte) (s : State) : (respond c v s).status = s.status := rfl
@[simp] theorem respond_por (c : RespCode) (v : Byte) (s : State) : (respond c v s).por = s.por := rfl
@[simp] theorem respond_cmds (c : RespCode) (v : Byte) (s : State) : (respond c v s).cmds = s.cmds := rfl
@[simp] theorem respond_resp (c : RespCode) (v : Byte) (s : State) : (respond c v s).resp = s.resp ++ [respWord c v] := rfl
@[simp] theorem respond_fro (c : RespCode) (v : Byte) (s : State) : (respond c v s).fro = s.fro := rfl
@[simp] theorem respond_txs (c : RespCode) (v : Byte) (s : State) : (respond c v s).txs = s.txs := rfl
@[simp] theorem respond_tlmIn (c : RespCode) (v : Byte) (s : State) : (respond c v s).tlmIn = s.tlmIn := rfl
@[simp] theorem respond_tlm (c : RespCode) (v : Byte) (s : State) : (respond c v s).tlm = s.tlm := rfl
@[simp] theorem respond_tlmRefused (c : RespCode) (v : Byte) (s : State) : (respond c v s).tlmRefused = s.tlmRefused := rfl

/-! `raise`: an error changes STATUS and the responses only (R237) -/

@[simp] theorem raise_params (c : RespCode) (s : State) : (raise c s).params = s.params := by cases c <;> rfl
@[simp] theorem raise_ch (c : RespCode) (s : State) : (raise c s).ch = s.ch := by cases c <;> rfl
@[simp] theorem raise_txp (c : RespCode) (s : State) : (raise c s).txp = s.txp := by cases c <;> rfl
@[simp] theorem raise_crcAcc (c : RespCode) (s : State) : (raise c s).crcAcc = s.crcAcc := by cases c <;> rfl
@[simp] theorem raise_rxbuf (c : RespCode) (s : State) : (raise c s).rxbuf = s.rxbuf := by cases c <;> rfl
@[simp] theorem raise_status (c : RespCode) (s : State) :
    (raise c s).status = (match errorFlag c with | some f => withFlag f s.status | none => s.status) := by
  cases c <;> rfl
@[simp] theorem raise_por (c : RespCode) (s : State) : (raise c s).por = s.por := by cases c <;> rfl
@[simp] theorem raise_cmds (c : RespCode) (s : State) : (raise c s).cmds = s.cmds := by cases c <;> rfl
@[simp] theorem raise_resp (c : RespCode) (s : State) : (raise c s).resp = s.resp ++ [respWord c 0x00#8] := by
  cases c <;> rfl
@[simp] theorem raise_fro (c : RespCode) (s : State) : (raise c s).fro = s.fro := by cases c <;> rfl
@[simp] theorem raise_txs (c : RespCode) (s : State) : (raise c s).txs = s.txs := by cases c <;> rfl
@[simp] theorem raise_tlmIn (c : RespCode) (s : State) : (raise c s).tlmIn = s.tlmIn := by cases c <;> rfl
@[simp] theorem raise_tlm (c : RespCode) (s : State) : (raise c s).tlm = s.tlm := by cases c <;> rfl
@[simp] theorem raise_tlmRefused (c : RespCode) (s : State) : (raise c s).tlmRefused = s.tlmRefused := by cases c <;> rfl

/-! `resetBlock` (R34) -/

@[simp] theorem resetBlock_params (s : State) : (resetBlock s).params = s.params := rfl
@[simp] theorem resetBlock_ch (s : State) : (resetBlock s).ch = resetCh s.params := rfl
@[simp] theorem resetBlock_txp (s : State) : (resetBlock s).txp = resetTxp := rfl
@[simp] theorem resetBlock_crcAcc (s : State) : (resetBlock s).crcAcc = resetCrcAcc := rfl
@[simp] theorem resetBlock_rxbuf (s : State) : (resetBlock s).rxbuf = [] := rfl
@[simp] theorem resetBlock_status (s : State) : (resetBlock s).status = resetStatus := rfl
@[simp] theorem resetBlock_por (s : State) : (resetBlock s).por = s.por := rfl
@[simp] theorem resetBlock_cmds (s : State) : (resetBlock s).cmds = s.cmds := rfl
@[simp] theorem resetBlock_resp (s : State) : (resetBlock s).resp = s.resp := rfl
@[simp] theorem resetBlock_fro (s : State) : (resetBlock s).fro = s.fro := rfl
@[simp] theorem resetBlock_txs (s : State) : (resetBlock s).txs = s.txs := rfl
@[simp] theorem resetBlock_tlmIn (s : State) : (resetBlock s).tlmIn = s.tlmIn := rfl
@[simp] theorem resetBlock_tlm (s : State) : (resetBlock s).tlm = s.tlm := rfl
@[simp] theorem resetBlock_tlmRefused (s : State) : (resetBlock s).tlmRefused = s.tlmRefused := rfl

end Sys2Proof.Machine.State
end

