-- ==== Sys2Proof/Laws/Framer.lean ====
section
/-! SUPPORT. What the synchronizer's transition, its report and its loop can do, each said once (`41_framer.md` R125 to
R134). -/

namespace Sys2Proof.Machine

/-- The outcomes of the transition, each with its condition (R126 to R128, R130). -/
theorem syncTransition_cases (m : List Byte) :
    (m.length ≤ 2 ∧ syncTransition m = .accumulating) ∨
    (2 < m.length ∧ Config.maxFrame < expectedLen m ∧ syncTransition m = .corrupt .toolong) ∨
    (2 < m.length ∧ expectedLen m < Config.minFrame ∧ syncTransition m = .corrupt .tooshort) ∨
    (2 < m.length ∧ Config.minFrame ≤ expectedLen m ∧ expectedLen m ≤ Config.maxFrame ∧ m.length < expectedLen m ∧
      syncTransition m = .accumulating) ∨
    (2 < m.length ∧ Config.minFrame ≤ expectedLen m ∧ expectedLen m ≤ Config.maxFrame ∧ expectedLen m ≤ m.length ∧
      syncTransition m = .frameReady (m.take (expectedLen m)) (m.drop (expectedLen m))) := by
  unfold syncTransition
  simp only [Config.maxFrame, Config.minFrame]
  by_cases h1 : m.length ≤ 2
  · simp [h1]
  by_cases h2 : 64 < expectedLen m
  · right; left; simp [h1, h2]; omega
  by_cases h3 : expectedLen m < 4
  · right; right; left; simp [h1, h2, h3]; omega
  by_cases h4 : m.length < expectedLen m
  · right; right; right; left
    simp [h1, h2, h3, h4]; omega
  · right; right; right; right
    simp [h1, h2, h3, h4, memRead, memRemove]; omega

/-- What reporting a candidate changes: its record, and either the annex unit's input or CRCERR (R131, R133). -/
theorem reportFrame_eq (F : List Byte) (s : State) :
    reportFrame F s =
      if validateFrame F then
        { s with fro := s.fro ++ [⟨.frameOk, F.getD 2 0#8, F⟩],
                 tlmIn := if s.params.hasTlmx then s.tlmIn ++ [F] else s.tlmIn }
      else { s with fro := s.fro ++ [⟨.crcErr, F.getD 2 0#8, F⟩], status := withFlag .crcerr s.status } := by
  unfold reportFrame forwardFrame
  cases s
  split <;> simp [State.addFro, State.setTlmIn, State.setFlag, State.setStatus]
  split <;> rfl

@[simp] theorem reportFrame_rxbuf (F : List Byte) (s : State) : (reportFrame F s).rxbuf = s.rxbuf := by
  rw [reportFrame_eq]; split <;> rfl

@[simp] theorem reportFrame_params (F : List Byte) (s : State) : (reportFrame F s).params = s.params := by
  rw [reportFrame_eq]; split <;> rfl

/-- The loop, one iteration at a time (R125). -/
theorem rxLoop_succ (n : Nat) (s : State) :
    rxLoop (n + 1) s =
      match syncTransition s.rxbuf with
      | .accumulating => s
      | .corrupt f => rxLoop n ((s.setFlag f).setRxbuf [])
      | .frameReady F rest => rxLoop n (reportFrame F (s.setRxbuf rest)) := rfl

/-- A state whose transition is to wait is a fixed point of the loop. -/
theorem rxLoop_accumulating (n : Nat) {s : State} (h : syncTransition s.rxbuf = .accumulating) : rxLoop n s = s := by
  cases n with
  | zero => rfl
  | succ n => rw [rxLoop_succ, h]

/-- An induction along the loop: a property that each transition carries on holds of the loop's result. -/
theorem rxLoop_induction {P : State → Prop} (n : Nat) (s : State) (h0 : P s)
    (hc : ∀ u f, syncTransition u.rxbuf = .corrupt f → P u → P ((u.setFlag f).setRxbuf []))
    (hf : ∀ u F rest, syncTransition u.rxbuf = .frameReady F rest → P u → P (reportFrame F (u.setRxbuf rest))) :
    P (rxLoop n s) := by
  induction n generalizing s with
  | zero => exact h0
  | succ n ih =>
    rw [rxLoop_succ]
    split
    · exact h0
    · next f h => exact ih _ (hc s f h h0)
    · next F rest h => exact ih _ (hf s F rest h h0)

end Sys2Proof.Machine
end

