-- ==== Sys2Proof/Laws/PerInstr.lean ====
section
/-! SUPPORT. The per-instruction family TableRow: the encoding of every instruction carries the fixed bits of its row of
`opcode_table.json`. -/

namespace Sys2Proof.Laws.TableRow

/-- A command's word is covered by the row that bears its mnemonic; a packet type's frame has its tag as byte 2. -/
def Statement (i : Instr) : Prop :=
  (∀ w, encode i = .word w → ∃ r ∈ opcodeTable, r.covers w = true ∧ r.mnemonic = mnemonicOf i) ∧
  (∀ F, encode i = .frame F → ∃ p f, packetOf i = some (p, f) ∧ F.getD 2 0#8 = packetTag p)

/-- A command with the word `mkWord op a b` satisfies the statement when its row covers that word. -/
theorem of_word {i : Instr} {op a b v mo ma mb : Byte} {m : String} (he : encode i = .word (mkWord op a b))
    (hm : mnemonicOf i = m) (hr : (⟨m, mkWord v 0#8 0#8, mkWord mo ma mb⟩ : OpcodeRow) ∈ opcodeTable)
    (h : op &&& mo = v) (ha : a &&& ma = 0#8) (hb : b &&& mb = 0#8) : Statement i := by
  refine ⟨fun w hw => ⟨_, hr, ?_, hm.symm⟩, fun F hF => ?_⟩
  · obtain rfl : mkWord op a b = w := by simpa [he] using hw
    exact covers_mkWord m v mo ma mb op a b h ha hb
  · simp [he] at hF

/-- A packet type satisfies the statement. -/
theorem of_packet (p : Config.PacketType) (f : Frame) : Statement (packetInstr p f) := by
  refine ⟨fun w hw => ?_, fun F hF => ⟨p, f, packetOf_packetInstr p f, ?_⟩⟩
  · simp at hw
  · obtain rfl : f.bytes (packetTag p) = F := by simpa using hF
    exact Frame.bytes_type _ _

theorem nop : Statement .nop :=
  of_word (v := 0x00#8) (mo := 0xFF#8) (ma := 0xFF#8) (mb := 0xFF#8) (m := "NOP") rfl rfl (by decide) (by decide)
    (by simp) (by simp)

theorem rdreg (a : Byte) : Statement (.rdreg a) :=
  of_word (v := 0x01#8) (mo := 0xFF#8) (ma := 0x00#8) (mb := 0xFF#8) (m := "RDREG") rfl rfl (by decide) (by decide)
    (by simp) (by simp)

theorem stclr (b : Byte) : Statement (.stclr b) :=
  of_word (v := 0x02#8) (mo := 0xFF#8) (ma := 0xFF#8) (mb := 0x00#8) (m := "STCLR") rfl rfl (by decide) (by decide)
    (by simp) (by simp)

theorem srst : Statement .srst :=
  of_word (v := 0x03#8) (mo := 0xFF#8) (ma := 0xFF#8) (mb := 0xFF#8) (m := "SRST") rfl rfl (by decide) (by decide)
    (by simp) (by simp)

theorem crcclr : Statement .crcclr :=
  of_word (v := 0x10#8) (mo := 0xFF#8) (ma := 0xFF#8) (mb := 0xFF#8) (m := "CRCCLR") rfl rfl (by decide) (by decide)
    (by simp) (by simp)

theorem crcb (b : Byte) : Statement (.crcb b) :=
  of_word (v := 0x11#8) (mo := 0xFF#8) (ma := 0xFF#8) (mb := 0x00#8) (m := "CRCB") rfl rfl (by decide) (by decide)
    (by simp) (by simp)

theorem rxpush (b : Byte) : Statement (.rxpush b) :=
  of_word (v := 0x20#8) (mo := 0xFF#8) (ma := 0xFF#8) (mb := 0x00#8) (m := "RXPUSH") rfl rfl (by decide) (by decide)
    (by simp) (by simp)

theorem rxeval : Statement .rxeval :=
  of_word (v := 0x21#8) (mo := 0xFF#8) (ma := 0xFF#8) (mb := 0xFF#8) (m := "RXEVAL") rfl rfl (by decide) (by decide)
    (by simp) (by simp)

theorem chset (a b : Byte) : Statement (.chset a b) :=
  of_word (v := 0x30#8) (mo := 0xFF#8) (ma := 0x00#8) (mb := 0x00#8) (m := "CHSET") rfl rfl (by decide) (by decide)
    (by simp) (by simp)

theorem txpack : Statement .txpack :=
  of_word (v := 0x31#8) (mo := 0xFF#8) (ma := 0xFF#8) (mb := 0xFF#8) (m := "TXPACK") rfl rfl (by decide) (by decide)
    (by simp) (by simp)

theorem pldset (a b : Byte) : Statement (.pldset a b) :=
  of_word (v := 0x32#8) (mo := 0xFF#8) (ma := 0x00#8) (mb := 0x00#8) (m := "PLDSET") rfl rfl (by decide) (by decide)
    (by simp) (by simp)

theorem txwrap : Statement .txwrap :=
  of_word (v := 0x33#8) (mo := 0xFF#8) (ma := 0xFF#8) (mb := 0xFF#8) (m := "TXWRAP") rfl rfl (by decide) (by decide)
    (by simp) (by simp)

theorem txsend : Statement .txsend :=
  of_word (v := 0x34#8) (mo := 0xFF#8) (ma := 0xFF#8) (mb := 0xFF#8) (m := "TXSEND") rfl rfl (by decide) (by decide)
    (by simp) (by simp)

theorem gps (f : Frame) : Statement (.gps f) := of_packet .gps f

theorem vario (f : Frame) : Statement (.vario f) := of_packet .vario f

theorem batterySensor (f : Frame) : Statement (.batterySensor f) := of_packet .batterySensor f

theorem baroAlt (f : Frame) : Statement (.baroAlt f) := of_packet .baroAlt f

theorem heartbeat (f : Frame) : Statement (.heartbeat f) := of_packet .heartbeat f

theorem videoTransmitter (f : Frame) : Statement (.videoTransmitter f) := of_packet .videoTransmitter f

theorem linkStatistics (f : Frame) : Statement (.linkStatistics f) := of_packet .linkStatistics f

theorem rcChannelsPacked (f : Frame) : Statement (.rcChannelsPacked f) := of_packet .rcChannelsPacked f

theorem attitude (f : Frame) : Statement (.attitude f) := of_packet .attitude f

theorem flightMode (f : Frame) : Statement (.flightMode f) := of_packet .flightMode f

theorem deviceInfo (f : Frame) : Statement (.deviceInfo f) := of_packet .deviceInfo f

theorem configRead (f : Frame) : Statement (.configRead f) := of_packet .configRead f

theorem configWrite (f : Frame) : Statement (.configWrite f) := of_packet .configWrite f

theorem command (f : Frame) : Statement (.command f) := of_packet .command f

theorem radioId (f : Frame) : Statement (.radioId f) := of_packet .radioId f

end Sys2Proof.Laws.TableRow
end

