-- ==== Sys2Proof/Tests/Slice0.lean ====
section
/-! SUPPORT. Own tests: the WellFormed smoke test, decoding of words written out from the spec's encodings, single steps
with results taken from the spec's examples and vectors (`95_test_vectors.md`), and one witness for every hypothesis of a
statement. -/

namespace Sys2Proof.Tests

open Sys2Proof.Machine

/-! ### Helpers -/

/-- The state after an outcome, if it is a next state. -/
def after (o : Host.Outcome State Fault Refusal) : Option State :=
  match o with
  | .next s => some s
  | .fault _ => none
  | .refused _ => none

/-- The reset state with a given receive buffer. -/
def withBuf (m : List Byte) : State := State.reset.setRxbuf m

/-- The reset state with words waiting on the command port. -/
def withCmds (ws : List CmdWord) : State := State.reset.setCmds ws

/-- The reset state with frames waiting at the annex unit. -/
def withFrames (l : List (List Byte)) : State := State.reset.setTlmIn l

/-- HB of 2.5: a HEARTBEAT frame. -/
def hb : List Byte := [0xC8#8, 0x04#8, 0x0B#8, 0x00#8, 0xC8#8, 0xED#8]

/-- HB damaged (F13 of 2.5). -/
def hbBad : List Byte := [0xC8#8, 0x04#8, 0x0B#8, 0x00#8, 0xC8#8, 0xEC#8]

/-- MIN of 2.5: the shortest frame. -/
def minF : List Byte := [0xC8#8, 0x02#8, 0x0B#8, 0x83#8]

/-- MAX of 2.5: the longest frame, payload 00..3B. -/
def maxF : List Byte := [0xC8#8, 0x3E#8, 0x7F#8] ++ (List.range 60).map (BitVec.ofNat 8) ++ [0x0E#8]

/-- The GPS frame of S7. -/
def gpsF : List Byte :=
  [0xC8#8, 0x11#8, 0x02#8, 0x05#8, 0xF5#8, 0xE1#8, 0x00#8, 0xFD#8, 0x05#8, 0x0F#8, 0x80#8, 0x0E#8, 0x10#8, 0x23#8,
   0x28#8, 0x05#8, 0xDC#8, 0x0C#8, 0xF2#8]

/-- A frame with a payload of `n` zero bytes. -/
def zeros (n : Nat) : Frame := ⟨0xC8#8, BitVec.ofNat 8 (n + 2), List.replicate n 0#8, 0#8⟩

/-- The payload of the reset state (R156, R175). -/
def resetPayload : List Byte :=
  [0xDF#8, 0xFB#8, 0xDE#8, 0x01#8, 0xBE#8, 0xF7#8, 0xBD#8, 0xEF#8, 0x7D#8, 0xEF#8, 0x7B#8, 0xDF#8, 0xFB#8, 0xDE#8,
   0xF7#8, 0xBE#8, 0xF7#8, 0xBD#8, 0xEF#8, 0x7D#8, 0xEF#8, 0x7B#8]

/-! ### WellFormed: one ill-formed term for each check -/

theorem test_wellFormed_accepts_heartbeat : WellFormed (.heartbeat ⟨0xC8#8, 0x04#8, [0x00#8, 0xC8#8], 0xED#8⟩) := by
  decide +kernel

theorem test_wellFormed_accepts_any_sync : WellFormed (.heartbeat ⟨0x00#8, 0x04#8, [0x00#8, 0xC8#8], 0xED#8⟩) := by
  decide +kernel

theorem test_wellFormed_refuses_long_payload :
    ¬ WellFormed (.radioId ⟨0xC8#8, 63#8, List.replicate 61 0#8, crc8 (0x3A#8 :: List.replicate 61 0#8)⟩) := by
  decide +kernel

theorem test_wellFormed_refuses_wrong_length : ¬ WellFormed (.heartbeat ⟨0xC8#8, 0x05#8, [0x00#8, 0xC8#8], 0xED#8⟩) := by
  decide

theorem test_wellFormed_refuses_wrong_crc : ¬ WellFormed (.heartbeat ⟨0xC8#8, 0x04#8, [0x00#8, 0xC8#8], 0xEC#8⟩) := by
  decide +kernel

/-! ### Decoding: words from the table of 2.6, R89 and the rules, one per constructor -/

theorem test_decode_system_words :
    decode (.word 0x000000#24) = .ok .nop ∧ decode (.word 0x013600#24) = .ok (.rdreg 0x36#8) ∧
    decode (.word 0x0200FF#24) = .ok (.stclr 0xFF#8) ∧ decode (.word 0x030000#24) = .ok .srst := by decide

theorem test_decode_crc_words :
    decode (.word 0x100000#24) = .ok .crcclr ∧ decode (.word 0x110016#24) = .ok (.crcb 0x16#8) := by decide

theorem test_decode_receive_words :
    decode (.word 0x2000C8#24) = .ok (.rxpush 0xC8#8) ∧ decode (.word 0x210000#24) = .ok .rxeval := by decide

theorem test_decode_transmit_words :
    decode (.word 0x301065#24) = .ok (.chset 16#8 101#8) ∧ decode (.word 0x310000#24) = .ok .txpack ∧
    decode (.word 0x321600#24) = .ok (.pldset 22#8 0#8) ∧ decode (.word 0x330000#24) = .ok .txwrap ∧
    decode (.word 0x340000#24) = .ok .txsend := by decide

theorem test_decode_illegal_words :
    decode (.word 0x000001#24) = .error .nonZeroField ∧ decode (.word 0x010001#24) = .error .nonZeroField ∧
    decode (.word 0x110100#24) = .error .nonZeroField ∧ decode (.word 0x210001#24) = .error .nonZeroField ∧
    decode (.word 0x040000#24) = .error (.undefinedOp 0x04#8) ∧
    decode (.word 0x350000#24) = .error (.undefinedOp 0x35#8) ∧
    decode (.word 0xFF0000#24) = .error (.undefinedOp 0xFF#8) ∧
    decode (.word 0x120000#24) = .error (.undefinedOp 0x12#8) ∧
    decode (.word 0x220000#24) = .error (.undefinedOp 0x22#8) := by decide

/-- The fifteen tags of R85, each on a four-byte frame. -/
theorem test_decode_packet_types :
    ([0x02#8, 0x07#8, 0x08#8, 0x09#8, 0x0B#8, 0x0F#8, 0x14#8, 0x16#8].map fun t =>
        (decode (.frame [0xC8#8, 0x02#8, t, 0x5A#8])).toOption) =
      [some (.gps ⟨0xC8#8, 2#8, [], 0x5A#8⟩), some (.vario ⟨0xC8#8, 2#8, [], 0x5A#8⟩),
       some (.batterySensor ⟨0xC8#8, 2#8, [], 0x5A#8⟩), some (.baroAlt ⟨0xC8#8, 2#8, [], 0x5A#8⟩),
       some (.heartbeat ⟨0xC8#8, 2#8, [], 0x5A#8⟩), some (.videoTransmitter ⟨0xC8#8, 2#8, [], 0x5A#8⟩),
       some (.linkStatistics ⟨0xC8#8, 2#8, [], 0x5A#8⟩), some (.rcChannelsPacked ⟨0xC8#8, 2#8, [], 0x5A#8⟩)] ∧
    ([0x1E#8, 0x21#8, 0x29#8, 0x2C#8, 0x2D#8, 0x32#8, 0x3A#8, 0x7F#8].map fun t =>
        (decode (.frame [0xC8#8, 0x02#8, t, 0x5A#8])).toOption) =
      [some (.attitude ⟨0xC8#8, 2#8, [], 0x5A#8⟩), some (.flightMode ⟨0xC8#8, 2#8, [], 0x5A#8⟩),
       some (.deviceInfo ⟨0xC8#8, 2#8, [], 0x5A#8⟩), some (.configRead ⟨0xC8#8, 2#8, [], 0x5A#8⟩),
       some (.configWrite ⟨0xC8#8, 2#8, [], 0x5A#8⟩), some (.command ⟨0xC8#8, 2#8, [], 0x5A#8⟩),
       some (.radioId ⟨0xC8#8, 2#8, [], 0x5A#8⟩), none] := by decide

theorem test_decode_frame_fields :
    decode (.frame [0xC8#8, 0x04#8, 0x07#8, 0xFF#8, 0xF1#8, 0x0A#8]) =
      .ok (.vario ⟨0xC8#8, 0x04#8, [0xFF#8, 0xF1#8], 0x0A#8⟩) := by decide

/-- No two rows of the opcode table cover a word of one row's value. -/
theorem test_table_rows_disjoint :
    opcodeTable.Pairwise fun r q => (r.value ^^^ q.value) &&& r.mask &&& q.mask ≠ 0#24 := by decide

theorem test_decodeTableWord :
    decodeTableWord 24 0x300264 = some (.chset 2#8 100#8) ∧ decodeTableWord 24 0x040000 = none ∧
    (decodeTableWord 8 0x3A).map mnemonicOf = some "RADIO_ID" ∧ decodeTableWord 8 0x7F = none := by decide +kernel

theorem test_withFetchWord_runs_the_row :
    (after (step (State.reset.withFetchWord 24 0x110016))).map (·.crcAcc) = some 0xD3#8 ∧
    (after (step (State.reset.withFetchWord 8 0x07))).map (·.tlm) = some [.vario ⟨0, 10⟩] := by decide +kernel

/-! ### Single steps: system commands (2.6, R186, R188, R189) -/

theorem test_nop_responds : (after (exec .nop State.reset)).map (·.resp) = some [0x0000#16] := by decide

theorem test_rdreg_channels :
    (after (exec (.rdreg 0x12#8) State.reset)).map (·.resp) = some [0x0000#16] ∧
    (after (exec (.rdreg 0x10#8) State.reset)).map (·.resp) = some [0x0032#16] := by decide +kernel

theorem test_rdreg_reserved :
    (after (exec (.rdreg 0x03#8) State.reset)).map (fun t => (t.resp, t.status)) = some ([0x0300#16], 0x20#8) := by decide

theorem test_stclr_example :
    (after (exec (.stclr 0x01#8) (State.reset.setStatus 0x15#8))).map (·.status) = some 0x14#8 := by decide

theorem test_stclr_keeps_rxovf :
    (after (exec (.stclr 0xFF#8) (State.reset.setStatus 0x08#8))).map (·.status) = some 0x08#8 := by decide

theorem test_srst_example :
    (after (exec .srst ((withBuf [0xC8#8]).setStatus 0x3F#8))).map (fun t => (t.rxbuf, t.status, t.ch.toList.getD 0 0#7)) =
      some ([], 0x00#8, 50#7) := by decide

theorem test_illegal_word :
    (after (step (withCmds [0x040000#24]))).map (fun t => (t.resp, t.status)) = some ([0x0200#16], 0x20#8) := by decide

/-! ### Single steps: the CRC port and the function (S2, 2.1) -/

theorem test_crcb_example : (after (exec (.crcb 0x16#8) State.reset)).map (·.crcAcc) = some 0xD3#8 := by decide

theorem test_crcclr_example :
    (after (exec .crcclr (State.reset.setCrcAcc 0xCD#8))).map (·.crcAcc) = some 0x00#8 := by decide

theorem test_crc8_vectors :
    crc8 [0x16#8, 0x01#8, 0x02#8] = 0xCD#8 ∧ crc8 [0x80#8] = 0xEF#8 ∧ crc8 [0xFF#8] = 0xF9#8 ∧
    crc8 [0x31#8, 0x32#8, 0x33#8, 0x34#8, 0x35#8, 0x36#8, 0x37#8, 0x38#8, 0x39#8] = 0xBC#8 := by decide +kernel

/-! ### Single steps: the synchronizer (2.5, R138) -/

theorem test_rxpush_example :
    (after (exec (.rxpush 0xC8#8) State.reset)).map (fun t => (t.rxbuf, t.resp)) = some ([0xC8#8], [0x0000#16]) := by decide

theorem test_rxpush_overflow :
    (after (exec (.rxpush 0xAA#8) (withBuf (List.replicate 128 0#8)))).map (fun t => (t.rxLen, t.status, t.resp)) =
      some (128, 0x08#8, [0x0400#16]) := by decide +kernel

/-- F13: a damaged frame, then a good one. -/
theorem test_rxeval_error_then_ok :
    (after (exec .rxeval (withBuf (hbBad ++ hb)))).map (fun t => (t.fro, t.rxbuf, t.status)) =
      some ([⟨.crcErr, 0x0B#8, hbBad⟩, ⟨.frameOk, 0x0B#8, hb⟩], [], 0x01#8) := by decide +kernel

/-- F17: a GPS frame, then garbage of length byte 200. -/
theorem test_rxeval_resync :
    (after (exec .rxeval (withBuf (gpsF ++ [0x55#8, 0xC8#8, 0x01#8, 0x02#8, 0x03#8])))).map
      (fun t => (t.fro, t.rxbuf, t.status)) = some ([⟨.frameOk, 0x02#8, gpsF⟩], [], 0x04#8) := by decide +kernel

/-! ### Single steps: packer and wrapper (2.2 to 2.4) -/

theorem test_chset_accepts :
    (after (exec (.chset 2#8 100#8) State.reset)).map (fun t => (t.ch.toList.getD 2 0#7, t.resp)) =
      some (100#7, [0x0000#16]) := by decide

theorem test_chset_refuses_index_first :
    (after (exec (.chset 16#8 101#8) State.reset)).map (fun t => (t.resp, t.status)) = some ([0x0300#16], 0x20#8) := by
  decide

theorem test_pack16_ramp :
    pack16 ((List.range 16).map fun i => BitVec.ofNat 11 (i + 1)) =
      [0x01#8, 0x10#8, 0xC0#8, 0x00#8, 0x08#8, 0x50#8, 0x00#8, 0x03#8, 0x1C#8, 0x00#8, 0x01#8, 0x09#8, 0x50#8, 0xC0#8,
       0x02#8, 0x18#8, 0xD0#8, 0x00#8, 0x07#8, 0x3C#8, 0x00#8, 0x02#8] := by decide +kernel

theorem test_mapCh_canonical_range :
    (mapCh { Config.Params.defaults with rcMin := 172, rcMax := 1811 } 50#7).toNat = 991 := by decide

theorem test_txpack_example :
    (after (exec .txpack State.reset)).map (·.txp.toList) = some resetPayload := by decide +kernel

theorem test_pldset_example :
    (after (exec (.pldset 21#8 0x7B#8) State.reset)).map (·.txp.toList.getD 21 0#8) = some 0x7B#8 := by decide

theorem test_pldset_refuses_index :
    (after (exec (.pldset 22#8 0x00#8) State.reset)).map (·.resp) = some [0x0300#16] := by decide

theorem test_txwrap_zero_payload :
    (after (exec .txwrap State.reset)).map (fun t => t.txs.map TxItem.byte) =
      some ([0xC8#8, 0x18#8, 0x16#8] ++ List.replicate 22 0#8 ++ [0xEF#8]) := by decide +kernel

theorem test_txsend_example :
    (after (exec .txsend State.reset)).map (·.txs) =
      some (([0xC8#8, 0x18#8, 0x16#8] ++ resetPayload).map (⟨·, false⟩) ++ [⟨0x62#8, true⟩]) := by decide +kernel

/-! ### Single steps: the annex (2.7) -/

theorem test_gps_example :
    (after (step (withFrames [gpsF]))).map (·.tlm) =
      some [.gps ⟨100000000, 10000000⟩ ⟨-50000000, 10000000⟩ ⟨3600, 36⟩ ⟨9000, 100⟩ 500 12] := by decide +kernel

theorem test_gps_latitude_is_ten_degrees : scaledValue ⟨100000000, 10000000⟩ = 10 := by
  norm_num [scaledValue]

theorem test_battery_or_not_sum :
    (after (step (withFrames [[0xC8#8, 0x0A#8, 0x08#8, 0x00#8, 0xA8#8, 0xFF#8, 0xE7#8, 0x00#8, 0x01#8, 0x80#8, 0x57#8,
      0x80#8]]))).map (·.tlm) = some [.batterySensor ⟨168, 10⟩ ⟨-25, 10⟩ 128 87] := by decide +kernel

theorem test_baro_example :
    (after (step (withFrames [[0xC8#8, 0x06#8, 0x09#8, 0x00#8, 0x00#8, 0x30#8, 0x39#8, 0x22#8]]))).map (·.tlm) =
      some [.baroAlt ⟨12345, 100⟩] := by decide

theorem test_link_example :
    (after (step (withFrames [[0xC8#8, 0x06#8, 0x14#8, 0xC4#8, 0x9C#8, 0x64#8, 0xFB#8, 0x7C#8]]))).map (·.tlm) =
      some [.linkStatistics (-60) (-100) 100 (-5)] := by decide

theorem test_attitude_example :
    (after (step (withFrames [[0xC8#8, 0x08#8, 0x1E#8, 0x06#8, 0xD1#8, 0xF2#8, 0x5D#8, 0x7A#8, 0xB8#8, 0x6B#8]]))).map
      (·.tlm) = some [.attitude ⟨1745, 10000⟩ ⟨-3491, 10000⟩ ⟨31416, 10000⟩] := by decide

theorem test_short_vario :
    (after (step (withFrames [[0xC8#8, 0x03#8, 0x07#8, 0xFF#8, 0xC8#8]]))).map (fun t => (t.tlm, t.tlmRefused)) =
      some ([], [[0xC8#8, 0x03#8, 0x07#8, 0xFF#8, 0xC8#8]]) := by decide

theorem test_unknown_type :
    (after (step (withFrames [[0xC8#8, 0x03#8, 0x7F#8, 0xAA#8, 0xCE#8]]))).map (fun t => (t.tlm, t.tlmIn)) =
      some ([], []) := by decide

/-! ### Witnesses: the hypotheses of every statement can be met -/

theorem reset_inv : State.reset.Inv :=
  ⟨by decide, by decide, by decide, by decide, by decide, by decide, by decide⟩

theorem witness_decoded_input :
    decode (.word 0x01FF00#24) = .ok (.rdreg 0xFF#8) ∧
    decode (.frame hb) = .ok (.heartbeat ⟨0xC8#8, 0x04#8, [0x00#8, 0xC8#8], 0xED#8⟩) := by decide

theorem witness_covered_word :
    decode (.word 0x3015FF#24) = .ok (.chset 0x15#8 0xFF#8) ∧
    (⟨"CHSET", 0x300000#24, 0xFF0000#24⟩ : OpcodeRow) ∈ opcodeTable ∧
    (⟨"CHSET", 0x300000#24, 0xFF0000#24⟩ : OpcodeRow).covers 0x3015FF#24 = true := by decide

theorem witness_words_of_each_format :
    opField 0x000000#24 = 0x00#8 ∧ opField 0x030001#24 = 0x03#8 ∧ opField 0x01FF00#24 = 0x01#8 ∧
    opField 0x0200FF#24 = 0x02#8 ∧ opField 0x100000#24 = 0x10#8 ∧ opField 0x1101FF#24 = 0x11#8 ∧
    opField 0x2000FF#24 = 0x20#8 ∧ opField 0x30FFFF#24 = 0x30#8 ∧ opField 0x310000#24 = 0x31#8 ∧
    opField 0x32FFFF#24 = 0x32#8 ∧ opField 0x330000#24 = 0x33#8 ∧ opField 0x34FFFF#24 = 0x34#8 := by decide

theorem witness_step_takes_a_word :
    (withCmds [0x110016#24]).por = false ∧ (withCmds [0x110016#24]).tlmIn = [] ∧
    (withCmds [0x110016#24]).cmds = 0x110016#24 :: [] ∧ decode (.word 0x110016#24) = .ok (.crcb 0x16#8) := by decide

theorem witness_step_takes_a_frame :
    (withFrames [hb]).por = false ∧ (withFrames [hb]).tlmIn = hb :: [] ∧
    decode (.frame hb) = .ok (.heartbeat ⟨0xC8#8, 0x04#8, [0x00#8, 0xC8#8], 0xED#8⟩) := by decide

theorem witness_illegal_word :
    (withCmds [0xFFFFFF#24]).por = false ∧ (withCmds [0xFFFFFF#24]).tlmIn = [] ∧
    (withCmds [0xFFFFFF#24]).cmds = 0xFFFFFF#24 :: [] ∧ ∀ r ∈ opcodeTable, r.covers 0xFFFFFF#24 = false := by decide

theorem witness_reset_indices : (0 : Nat) < 16 ∧ (15 : Nat) < 16 ∧ Config.Params.defaults.throttleCh < 16 := by decide

theorem witness_power_on : (State.reset.setPor true).por = true := rfl

theorem witness_rdreg_numbers :
    (0x10 + 15 = 0x1F ∧ (15 : Nat) < 16) ∧ (0x20 + 21 = 0x35 ∧ (21 : Nat) < 22) ∧
    (∀ a ∈ [0x03#8, 0x0F#8, 0x36#8, 0xFF#8], (0x03 ≤ a.toNat ∧ a.toNat ≤ 0x0F) ∨ 0x36 ≤ a.toNat) := by decide

theorem witness_crc_laws :
    [0x01#8, 0x02#8].length = [0xFF#8, 0x80#8].length ∧ 4 ≤ minF.length ∧ validateFrame minF = true ∧
    validateFrame hbBad = false := by decide +kernel

theorem witness_rxpush_room : (withBuf (List.replicate 127 0#8)).rxbuf.length < State.reset.params.rxbufCap := by decide +kernel

theorem witness_rxpush_full : (withBuf (List.replicate 128 0#8)).rxbuf.length = State.reset.params.rxbufCap := by decide +kernel

theorem witness_overflowed : (State.reset.setStatus 0x08#8).overflowed ∧ Instr.stclr 0xFF#8 ≠ .srst := by decide

theorem witness_waits_short : (withBuf [0xC8#8, 0xC8#8]).rxbuf.length ≤ 2 := by decide

theorem witness_waits_incomplete :
    (2 < [0xC8#8, 0x02#8, 0x0B#8].length ∧ expectedLen [0xC8#8, 0x02#8, 0x0B#8] = 4 ∧
      [0xC8#8, 0x02#8, 0x0B#8].length < 4) ∧
    (2 < maxF.dropLast.length ∧ expectedLen maxF.dropLast = 64 ∧ maxF.dropLast.length < 64) := by decide

theorem witness_impossible_lengths :
    (2 < [0xC8#8, 0x3F#8, 0x01#8].length ∧ 63 ≤ ([0xC8#8, 0x3F#8, 0x01#8].getD 1 0#8).toNat) ∧
    63 ≤ ([0xC8#8, 0xFF#8, 0x00#8].getD 1 0#8).toNat ∧
    (2 < [0xC8#8, 0x01#8, 0x0B#8, 0x00#8].length ∧ ([0xC8#8, 0x01#8, 0x0B#8, 0x00#8].getD 1 0#8).toNat ≤ 1) ∧
    ([0xC8#8, 0x00#8, 0x0B#8].getD 1 0#8).toNat ≤ 1 := by decide

theorem witness_front_candidates :
    (2 < minF.length ∧ 4 = (minF.getD 1 0#8).toNat + 2 ∧ 4 ≤ minF.length ∧ validateFrame (minF.take 4) = true) ∧
    (2 < maxF.length ∧ 64 = (maxF.getD 1 0#8).toNat + 2 ∧ 64 ≤ maxF.length ∧ validateFrame (maxF.take 64) = true) ∧
    (2 < (hbBad ++ hb).length ∧ 6 = ((hbBad ++ hb).getD 1 0#8).toNat + 2 ∧ 6 ≤ (hbBad ++ hb).length ∧
      validateFrame ((hbBad ++ hb).take 6) = false) := by decide +kernel

theorem witness_rxeval_next : ∃ t, exec .rxeval (withBuf hb) = .next t ∧ (State.reset).rxbuf = t.rxbuf :=
  ⟨_, rfl, by decide +kernel⟩

theorem witness_burst_fits : ∃ t, exec .rxeval (withBuf maxF.dropLast) = .next t ∧
    63 + (List.replicate 65 0#8).length ≤ t.params.rxbufCap := ⟨_, rfl, by decide +kernel⟩

theorem witness_resync :
    validFrame gpsF ∧ (withBuf (gpsF ++ [0x55#8, 0xC8#8, 0x01#8])).rxbuf = gpsF ++ [0x55#8, 0xC8#8, 0x01#8] ∧
    3 ≤ [0x55#8, 0xC8#8, 0x01#8].length ∧ [0x55#8, 0xC8#8, 0x01#8].getD 1 0#8 = 200#8 ∧
    [0x55#8, 0xC8#8].length = 2 := by decide +kernel

/-- HB and MIN, split inside both frames. -/
theorem witness_aligned_stream :
    State.reset.rxbuf = [] ∧ (∀ F ∈ [hb, minF], validFrame F) ∧
    [[0xC8#8, 0x04#8, 0x0B#8], [0x00#8, 0xC8#8, 0xED#8, 0xC8#8], [0x02#8, 0x0B#8, 0x83#8]].flatten =
      [hb, minF].flatten ∧
    (∀ c ∈ [[0xC8#8, 0x04#8, 0x0B#8], [0x00#8, 0xC8#8, 0xED#8, 0xC8#8], [0x02#8, 0x0B#8, 0x83#8]],
      63 + c.length ≤ State.reset.params.rxbufCap) := by decide +kernel

theorem witness_chset_cases :
    15 < (16#8).toNat ∧ (15#8).toNat ≤ 15 ∧ ((0xFF#8).toInt < 0 ∧ 100 < (0x65#8).toInt ∧ (0x80#8).toInt < 0) ∧
    (15#8).toNat < 16 ∧ (0 ≤ (0x00#8).toInt ∧ (0x00#8).toInt ≤ 100) ∧ (0 ≤ (0x64#8).toInt ∧ (0x64#8).toInt ≤ 100) := by
  decide

theorem witness_map_domain :
    Config.Params.defaults.legal ∧ Config.Params.built.legal ∧ (100#7).toNat ≤ 100 ∧ (0#7).toNat ≤ 100 := by decide

theorem witness_pldset_cases : 21 < (22#8).toNat ∧ (21#8).toNat < 22 ∧ (0#8).toNat < 22 := by decide

theorem witness_wrapped_frame :
    ∃ F, F = [0xC8#8, 0x18#8, 0x16#8] ++ State.reset.txp.toList ++ [crc8 (0x16#8 :: State.reset.txp.toList)] := ⟨_, rfl⟩

theorem witness_built_frame : ∃ F, F = encodeRcFrame (payloadOf resetPayload) := ⟨_, rfl⟩

theorem witness_paths :
    pathOf .rxeval = some .rx ∧ pathOf (.rxpush 0#8) = some .rx ∧ pathOf (.chset 16#8 0#8) = some .tx ∧
    pathOf .txsend = some .tx ∧ pathOf .crcclr = some .crc ∧ Path.rx ≠ .tx ∧ Path.tx ≠ .crc ∧ Path.rx ≠ .crc := by decide

theorem witness_command_and_packet :
    packetOf (.rdreg 0x03#8) = none ∧ packetOf (.gps (zeros 15)) ≠ none := by decide

theorem witness_changes : ∃ t, exec (.chset 15#8 1#8) State.reset = .next t ∧ t.ch ≠ State.reset.ch :=
  ⟨_, rfl, by decide⟩

theorem witness_changes_status :
    ∃ t, exec (.pldset 22#8 0#8) State.reset = .next t ∧ t.status ≠ State.reset.status := ⟨_, rfl, by decide⟩

theorem witness_sticky :
    Instr.stclr 0xFF#8 ≠ .srst ∧ (State.reset.setStatus 0x08#8).flag .rxovf = true ∧
    (State.reset.setStatus 0x20#8).flag .illcmd = true := by decide

theorem witness_step_invariant : State.reset.Inv ∧ ∃ t, step State.reset = .next t := ⟨reset_inv, _, rfl⟩

theorem witness_packet_payloads :
    State.reset.params.hasTlmx = true ∧ 15 ≤ (zeros 15).payload.length ∧ 2 ≤ (zeros 2).payload.length ∧
    6 ≤ (zeros 6).payload.length ∧ 4 ≤ (zeros 4).payload.length ∧ 8 ≤ (zeros 8).payload.length := by decide

theorem witness_unknown_type :
    (withFrames [[0xC8#8, 0x03#8, 0x7F#8, 0xAA#8, 0xCE#8]]).por = false ∧
    packetOfTag ([0xC8#8, 0x03#8, 0x7F#8, 0xAA#8, 0xCE#8].getD 2 0#8) = none := by decide

theorem witness_short_frames :
    ∀ q ∈ [(Config.PacketType.gps, 14), (.vario, 1), (.batterySensor, 7), (.baroAlt, 3), (.linkStatistics, 3),
      (.attitude, 5)],
      ∃ h r, packetRecord q.1 = some (h, r) ∧ ((zeros q.2).bytes (packetTag q.1)).length + 1 = h + 2 := by
  simp [packetRecord, zeros, Frame.bytes]

theorem witness_annex_step :
    (withFrames [gpsF]).por = false ∧ (withFrames [gpsF]).params.hasTlmx = true ∧
    (withFrames [gpsF]).tlmIn = gpsF :: [] ∧ 4 ≤ gpsF.length ∧ (withFrames [minF]).tlmIn = minF :: [] ∧
    4 ≤ minF.length := by decide

theorem witness_absent_annex : (State.resetOf Config.Params.defaults).params.hasTlmx = false := rfl

end Sys2Proof.Tests
end

section
/-! Proofs about the step (`00_scope.md` R13, R17; `60_exceptions.md` R242): where a step takes its input, what the
commands that test an operand can answer, and what a packet type does. -/

namespace Sys2Proof.Machine

/-! ### Where a step takes its input -/

/-- An asserted power-on reset comes before every input (R260). -/
theorem step_of_por {s : State} (hpor : s.por = true) : step s = .next (powerOnReset s) := by
  simp [step, hpor]

theorem step_of_frame {s : State} {F : List Byte} {Fs : List (List Byte)} (hpor : s.por = false)
    (hF : s.tlmIn = F :: Fs) : step s = stepFrame F (s.setTlmIn Fs) := by
  simp [step, hpor, hF]

theorem step_of_word {s : State} {w : CmdWord} {ws : List CmdWord} (hpor : s.por = false) (hF : s.tlmIn = [])
    (hw : s.cmds = w :: ws) : step s = stepWord w (s.setCmds ws) := by
  simp [step, hpor, hF, hw]

theorem step_of_idle {s : State} (hpor : s.por = false) (hF : s.tlmIn = []) (hw : s.cmds = []) :
    step s = .next s := by
  simp [step, hpor, hF, hw]

theorem stepWord_of_decodes {w : CmdWord} {i : Instr} (h : decode (.word w) = .ok i) (s : State) :
    stepWord w s = exec i s := by
  simp only [stepWord, h]

theorem stepWord_of_rejected {w : CmdWord} {e : DecodeError} (h : decode (.word w) = .error e) (s : State) :
    stepWord w s = .next (illegalCommand s) := by
  simp only [stepWord, h]

theorem stepFrame_of_decodes {F : List Byte} {i : Instr} (h : decode (.frame F) = .ok i) (s : State) :
    stepFrame F s = exec i s := by
  simp only [stepFrame, h]

theorem stepFrame_of_rejected {F : List Byte} {e : DecodeError} (h : decode (.frame F) = .error e) (s : State) :
    stepFrame F s = .next (consumeFrame s) := by
  simp only [stepFrame, h]

/-! ### What the commands that test an operand or the buffer can answer -/

theorem execRdreg_cases (a : Byte) (s : State) :
    (∃ v, readRegister a s = some v ∧ execRdreg a s = .next (respond .ok v s)) ∨
    (readRegister a s = none ∧ execRdreg a s = .next (raise .eOperand s)) := by
  cases h : readRegister a s with
  | some v => exact .inl ⟨v, rfl, by simp only [execRdreg, h]⟩
  | none => exact .inr ⟨rfl, by simp only [execRdreg, h]⟩

theorem execRxpush_cases (b : Byte) (s : State) :
    (s.rxLen < s.params.rxbufCap ∧
      execRxpush b s = .next (respond .ok 0x00#8 (s.setRxbuf (memAppend b s.rxbuf)))) ∨
    (s.params.rxbufCap ≤ s.rxLen ∧ execRxpush b s = .next (raise .eRxovf s)) := by
  by_cases h : s.rxLen < s.params.rxbufCap
  · exact .inl ⟨h, if_pos h⟩
  · exact .inr ⟨Nat.le_of_not_lt h, if_neg h⟩

/-- The index is tested before the value (R236). -/
theorem execChset_cases (a b : Byte) (s : State) :
    (chanIndexOk a ∧ stickInRange (signed8 b) ∧
      execChset a b s = .next (respond .ok 0x00#8 (writeChan a (chanBits b) s))) ∨
    (chanIndexOk a ∧ ¬ stickInRange (signed8 b) ∧ execChset a b s = .next (raise .eRange s)) ∨
    (¬ chanIndexOk a ∧ execChset a b s = .next (raise .eOperand s)) := by
  by_cases ha : chanIndexOk a
  · by_cases hb : stickInRange (signed8 b)
    · exact .inl ⟨ha, hb, (if_pos ha).trans (if_pos hb)⟩
    · exact .inr (.inl ⟨ha, hb, (if_pos ha).trans (if_neg hb)⟩)
  · exact .inr (.inr ⟨ha, if_neg ha⟩)

theorem execPldset_cases (a b : Byte) (s : State) :
    (payloadIndexOk a ∧ execPldset a b s = .next (respond .ok 0x00#8 (writePayload a b s))) ∨
    (¬ payloadIndexOk a ∧ execPldset a b s = .next (raise .eOperand s)) := by
  by_cases h : payloadIndexOk a
  · exact .inl ⟨h, if_pos h⟩
  · exact .inr ⟨h, if_neg h⟩

/-! ### What a packet type does (R200, R209) -/

/-- A type with fields delivers the record of its frame. -/
theorem exec_packetInstr_of_record {q : Config.PacketType} {h : Nat} {r : List Byte → TelemetryRecord}
    (hq : packetRecord q = some (h, r)) (f : Frame) (s : State) :
    exec (packetInstr q f) s = .next (deliverRecord h r (f.bytes (packetTag q)) s) := by
  cases q <;> cases hq <;> rfl

/-- A type with no action consumes its frame. -/
theorem exec_packetInstr_of_noRecord {q : Config.PacketType} (hq : packetRecord q = none) (f : Frame) (s : State) :
    exec (packetInstr q f) s = .next s := by
  cases q <;> cases hq <;> rfl

theorem deliverRecord_of_absent {s : State} (habs : s.params.hasTlmx = false) (h : Nat)
    (r : List Byte → TelemetryRecord) (F : List Byte) : deliverRecord h r F s = s := by
  simp [deliverRecord, habs]

/-! ### Every instruction and every step has a next state -/

/-- No instruction faults or is refused: the four that test something answer in each case, the others at once. -/
theorem exec_next (i : Instr) (s : State) : ∃ t, exec i s = .next t := by
  cases i with
  | rdreg a =>
    obtain ⟨v, -, h⟩ | ⟨-, h⟩ := execRdreg_cases a s
    · exact ⟨_, h⟩
    · exact ⟨_, h⟩
  | rxpush b =>
    obtain ⟨-, h⟩ | ⟨-, h⟩ := execRxpush_cases b s
    · exact ⟨_, h⟩
    · exact ⟨_, h⟩
  | chset a b =>
    obtain ⟨-, -, h⟩ | ⟨-, -, h⟩ | ⟨-, h⟩ := execChset_cases a b s
    · exact ⟨_, h⟩
    · exact ⟨_, h⟩
    · exact ⟨_, h⟩
  | pldset a b =>
    obtain ⟨-, h⟩ | ⟨-, h⟩ := execPldset_cases a b s
    · exact ⟨_, h⟩
    · exact ⟨_, h⟩
  | _ => exact ⟨_, rfl⟩

theorem stepWord_next (w : CmdWord) (s : State) : ∃ t, stepWord w s = .next t := by
  cases h : decode (.word w) with
  | ok i => rw [stepWord_of_decodes h]; exact exec_next i s
  | error e => exact ⟨_, stepWord_of_rejected h s⟩

theorem stepFrame_next (F : List Byte) (s : State) : ∃ t, stepFrame F s = .next t := by
  cases h : decode (.frame F) with
  | ok i => rw [stepFrame_of_decodes h]; exact exec_next i s
  | error e => exact ⟨_, stepFrame_of_rejected h s⟩

theorem step_next (s : State) : ∃ t, step s = .next t := by
  cases hpor : s.por with
  | true => exact ⟨_, step_of_por hpor⟩
  | false =>
    cases hF : s.tlmIn with
    | cons F Fs => rw [step_of_frame hpor hF]; exact stepFrame_next F _
    | nil =>
      cases hw : s.cmds with
      | cons w ws => rw [step_of_word hpor hF hw]; exact stepWord_next w _
      | nil => exact ⟨_, step_of_idle hpor hF hw⟩

/-! ### The obligations of `00_scope.md` -/

/-- Settles O5: with the reset input low, a step takes the oldest frame, or the oldest word when no frame waits, and
runs what it decodes to. -/
theorem stepRunsTheDecodedInstruction : Obligations.StepRunsTheDecodedInstruction := by
  unfold Obligations.StepRunsTheDecodedInstruction
  refine ⟨fun s w ws i hpor hF hw hi => ?_, fun s F Fs i hpor hF hi => ?_⟩
  · exact (step_of_word hpor hF hw).trans (stepWord_of_decodes hi _)
  · exact (step_of_frame hpor hF).trans (stepFrame_of_decodes hi _)

/-- Settles O47: each place a step can take its input from leads to a next state. -/
theorem everyStepHasANextState : Obligations.EveryStepHasANextState :=
  step_next

/-- Settles O58: a type with fields delivers nothing when the unit is absent, and the others never do anything. -/
theorem absentAnnexDoesNothing : Obligations.AbsentAnnexDoesNothing := by
  unfold Obligations.AbsentAnnexDoesNothing
  intro q f s habs
  cases hq : packetRecord q with
  | none => exact exec_packetInstr_of_noRecord hq f s
  | some hr => rw [exec_packetInstr_of_record hq f s, deliverRecord_of_absent habs]

end Sys2Proof.Machine
end

section
/-! Proofs about what an instruction can do: its effects, each with its condition, and what the synchronizer's loop
leaves alone. -/

namespace Sys2Proof.Machine

/-! ### The effects of the instructions -/

/-- What an instruction can make of a state: one constructor for each outcome, with the condition it is reached under
(R150, R151, R174, R186, R200, R211, R235). -/
inductive Effect : Instr → State → State → Prop where
  | nop {s : State} : Effect .nop s (respond .ok 0x00#8 s)
  | rdreg {s : State} {a v : Byte} (h : readRegister a s = some v) : Effect (.rdreg a) s (respond .ok v s)
  | rdregReserved {s : State} {a : Byte} (h : readRegister a s = none) : Effect (.rdreg a) s (raise .eOperand s)
  | stclr {s : State} {b : Byte} : Effect (.stclr b) s (respond .ok 0x00#8 (s.setStatus (clearFlags b s.status)))
  | srst {s : State} : Effect .srst s (respond .ok 0x00#8 (resetBlock s))
  | crcclr {s : State} : Effect .crcclr s (respond .ok 0x00#8 (s.setCrcAcc 0x00#8))
  | crcb {s : State} {b : Byte} : Effect (.crcb b) s (respond .ok 0x00#8 (s.setCrcAcc (crcStep s.crcAcc b)))
  | rxpush {s : State} {b : Byte} (h : s.rxLen < s.params.rxbufCap) :
      Effect (.rxpush b) s (respond .ok 0x00#8 (s.setRxbuf (memAppend b s.rxbuf)))
  | rxpushFull {s : State} {b : Byte} (h : s.params.rxbufCap ≤ s.rxLen) : Effect (.rxpush b) s (raise .eRxovf s)
  | rxeval {s : State} : Effect .rxeval s (respond .ok 0x00#8 (rxLoop (rxIterations s) s))
  | chset {s : State} {a b : Byte} (ha : chanIndexOk a) (hb : stickInRange (signed8 b)) :
      Effect (.chset a b) s (respond .ok 0x00#8 (s.setCh (s.ch.setIfInBounds a.toNat (chanBits b))))
  | chsetValue {s : State} {a b : Byte} (ha : chanIndexOk a) (hb : ¬ stickInRange (signed8 b)) :
      Effect (.chset a b) s (raise .eRange s)
  | chsetIndex {s : State} {a b : Byte} (ha : ¬ chanIndexOk a) : Effect (.chset a b) s (raise .eOperand s)
  | txpack {s : State} : Effect .txpack s (respond .ok 0x00#8 (s.setTxp (packChannels s)))
  | pldset {s : State} {a b : Byte} (ha : payloadIndexOk a) :
      Effect (.pldset a b) s (respond .ok 0x00#8 (s.setTxp (s.txp.setIfInBounds a.toNat b)))
  | pldsetIndex {s : State} {a b : Byte} (ha : ¬ payloadIndexOk a) : Effect (.pldset a b) s (raise .eOperand s)
  | txwrap {s : State} : Effect .txwrap s (respond .ok 0x00#8 (s.addTxs (txItems (encodeRcFrame s.txp))))
  | txsend {s : State} : Effect .txsend s
      (respond .ok 0x00#8 ((s.setTxp (packChannels s)).addTxs (txItems (encodeRcFrame (packChannels s)))))
  | delivered {s : State} {i : Instr} {q : Config.PacketType} {f : Frame} {h : Nat} {r : List Byte → TelemetryRecord}
      (hi : packetOf i = some (q, f)) (hq : packetRecord q = some (h, r)) (hx : s.params.hasTlmx = true)
      (hl : longEnough h (f.bytes (packetTag q))) : Effect i s (s.addTlm (r (f.bytes (packetTag q))))
  | tooShort {s : State} {i : Instr} {q : Config.PacketType} {f : Frame} {h : Nat} {r : List Byte → TelemetryRecord}
      (hi : packetOf i = some (q, f)) (hq : packetRecord q = some (h, r)) (hx : s.params.hasTlmx = true)
      (hl : ¬ longEnough h (f.bytes (packetTag q))) : Effect i s (s.addTlmRefused (f.bytes (packetTag q)))
  | consumed {s : State} {i : Instr} {q : Config.PacketType} {f : Frame} (hi : packetOf i = some (q, f))
      (hq : packetRecord q = none ∨ s.params.hasTlmx = false) : Effect i s s

/-- Each effect is what `exec` answers under its condition. -/
theorem Effect.exec_eq {i : Instr} {s t : State} (h : Effect i s t) : exec i s = .next t := by
  cases h with
  | rdreg h => simp only [exec, execRdreg, h]
  | rdregReserved h => simp only [exec, execRdreg, h]
  | rxpush h => exact if_pos h
  | rxpushFull h => exact if_neg (Nat.not_lt.mpr h)
  | chset ha hb => exact (if_pos ha).trans (if_pos hb)
  | chsetValue ha hb => exact (if_pos ha).trans (if_neg hb)
  | chsetIndex ha => exact if_neg ha
  | pldset ha => exact if_pos ha
  | pldsetIndex ha => exact if_neg ha
  | delivered hi hq hx hl =>
    rw [packetInstr_of_packetOf hi, exec_packetInstr_of_record hq, deliverRecord, if_pos hx, if_pos hl]
  | tooShort hi hq hx hl =>
    rw [packetInstr_of_packetOf hi, exec_packetInstr_of_record hq, deliverRecord, if_pos hx, if_neg hl]
  | @consumed _ _ q f hi hq =>
    rw [packetInstr_of_packetOf hi]
    cases hr : packetRecord q with
    | none => exact exec_packetInstr_of_noRecord hr f s
    | some hr' =>
      have habs : s.params.hasTlmx = false := hq.resolve_left (by simp [hr])
      rw [exec_packetInstr_of_record hr f s, deliverRecord_of_absent habs]
  | _ => rfl

/-- A packet type always has an effect (R200, R209, R211). -/
theorem exists_effect_of_packetOf {i : Instr} {q : Config.PacketType} {f : Frame} (hi : packetOf i = some (q, f))
    (s : State) : ∃ t, Effect i s t := by
  cases hq : packetRecord q with
  | none => exact ⟨_, .consumed hi (.inl hq)⟩
  | some hr =>
    cases hx : s.params.hasTlmx with
    | false => exact ⟨_, .consumed hi (.inr hx)⟩
    | true =>
      by_cases hl : longEnough hr.1 (f.bytes (packetTag q))
      · exact ⟨_, .delivered hi hq hx hl⟩
      · exact ⟨_, .tooShort hi hq hx hl⟩

theorem exists_effect (i : Instr) (s : State) : ∃ t, Effect i s t := by
  cases i with
  | nop => exact ⟨_, .nop⟩
  | rdreg a =>
    cases h : readRegister a s with
    | some v => exact ⟨_, .rdreg h⟩
    | none => exact ⟨_, .rdregReserved h⟩
  | stclr b => exact ⟨_, .stclr⟩
  | srst => exact ⟨_, .srst⟩
  | crcclr => exact ⟨_, .crcclr⟩
  | crcb b => exact ⟨_, .crcb⟩
  | rxpush b =>
    by_cases h : s.rxLen < s.params.rxbufCap
    · exact ⟨_, .rxpush h⟩
    · exact ⟨_, .rxpushFull (Nat.not_lt.mp h)⟩
  | rxeval => exact ⟨_, .rxeval⟩
  | chset a b =>
    by_cases ha : chanIndexOk a
    · by_cases hb : stickInRange (signed8 b)
      · exact ⟨_, .chset ha hb⟩
      · exact ⟨_, .chsetValue ha hb⟩
    · exact ⟨_, .chsetIndex ha⟩
  | txpack => exact ⟨_, .txpack⟩
  | pldset a b =>
    by_cases ha : payloadIndexOk a
    · exact ⟨_, .pldset ha⟩
    · exact ⟨_, .pldsetIndex ha⟩
  | txwrap => exact ⟨_, .txwrap⟩
  | txsend => exact ⟨_, .txsend⟩
  | _ => exact exists_effect_of_packetOf rfl s

/-- `exec` answers exactly the effects. -/
theorem exec_eq_next_iff {i : Instr} {s t : State} : exec i s = .next t ↔ Effect i s t := by
  refine ⟨fun h => ?_, Effect.exec_eq⟩
  obtain ⟨u, hu⟩ := exists_effect i s
  have htu : t = u := Host.Outcome.next.inj (h.symm.trans hu.exec_eq)
  exact htu ▸ hu

/-! ### The synchronizer's loop (R125, R126, R130 to R133) -/

/-- The loop writes the buffer, STATUS, FRO and the annex unit's input, and nothing else. -/
theorem rxLoop_frame (n : Nat) (s : State) : ∃ m st rs Fs,
    rxLoop n s = { s with rxbuf := m, status := st, fro := rs, tlmIn := Fs } := by
  refine rxLoop_induction (P := fun u => ∃ m st rs Fs, u = { s with rxbuf := m, status := st, fro := rs, tlmIn := Fs })
    n s ⟨_, _, _, _, rfl⟩ ?_ ?_
  · rintro u f - ⟨m, st, rs, Fs, rfl⟩
    exact ⟨_, _, _, _, rfl⟩
  · rintro u F rest - ⟨m, st, rs, Fs, rfl⟩
    rw [reportFrame_eq]
    split <;> exact ⟨_, _, _, _, rfl⟩

@[simp] theorem rxLoop_params (n : Nat) (s : State) : (rxLoop n s).params = s.params := by
  obtain ⟨m, st, rs, Fs, h⟩ := rxLoop_frame n s; rw [h]
@[simp] theorem rxLoop_ch (n : Nat) (s : State) : (rxLoop n s).ch = s.ch := by
  obtain ⟨m, st, rs, Fs, h⟩ := rxLoop_frame n s; rw [h]
@[simp] theorem rxLoop_txp (n : Nat) (s : State) : (rxLoop n s).txp = s.txp := by
  obtain ⟨m, st, rs, Fs, h⟩ := rxLoop_frame n s; rw [h]
@[simp] theorem rxLoop_crcAcc (n : Nat) (s : State) : (rxLoop n s).crcAcc = s.crcAcc := by
  obtain ⟨m, st, rs, Fs, h⟩ := rxLoop_frame n s; rw [h]
@[simp] theorem rxLoop_por (n : Nat) (s : State) : (rxLoop n s).por = s.por := by
  obtain ⟨m, st, rs, Fs, h⟩ := rxLoop_frame n s; rw [h]
@[simp] theorem rxLoop_cmds (n : Nat) (s : State) : (rxLoop n s).cmds = s.cmds := by
  obtain ⟨m, st, rs, Fs, h⟩ := rxLoop_frame n s; rw [h]
@[simp] theorem rxLoop_resp (n : Nat) (s : State) : (rxLoop n s).resp = s.resp := by
  obtain ⟨m, st, rs, Fs, h⟩ := rxLoop_frame n s; rw [h]
@[simp] theorem rxLoop_txs (n : Nat) (s : State) : (rxLoop n s).txs = s.txs := by
  obtain ⟨m, st, rs, Fs, h⟩ := rxLoop_frame n s; rw [h]
@[simp] theorem rxLoop_tlm (n : Nat) (s : State) : (rxLoop n s).tlm = s.tlm := by
  obtain ⟨m, st, rs, Fs, h⟩ := rxLoop_frame n s; rw [h]
@[simp] theorem rxLoop_tlmRefused (n : Nat) (s : State) : (rxLoop n s).tlmRefused = s.tlmRefused := by
  obtain ⟨m, st, rs, Fs, h⟩ := rxLoop_frame n s; rw [h]

/-- Reporting a candidate appends its one record (R131, R133). -/
theorem reportFrame_fro (F : List Byte) (s : State) : ∃ r, (reportFrame F s).fro = s.fro ++ [r] := by
  rw [reportFrame_eq]
  split <;> exact ⟨_, rfl⟩

/-- The loop keeps the records already emitted (R33). -/
theorem fro_grows_rxLoop (n : Nat) (s : State) : s.fro <+: (rxLoop n s).fro := by
  refine rxLoop_induction (P := fun u => s.fro <+: u.fro) n s ⟨[], by simp⟩ (fun u f _ hu => hu) ?_
  intro u F rest _ hu
  obtain ⟨r, hr⟩ := reportFrame_fro F (u.setRxbuf rest)
  exact hu.trans ⟨[r], hr.symm⟩

/-- A candidate has a legal length, which its length byte tells, and is the front of the buffer (R124, R130). -/
theorem frameReady_spec {m F rest : List Byte} (h : syncTransition m = .frameReady F rest) :
    Config.minFrame ≤ F.length ∧ F.length ≤ Config.maxFrame ∧ F.length = (F.getD 1 0#8).toNat + 2 ∧ m = F ++ rest := by
  obtain ⟨-, h'⟩ | ⟨-, -, h'⟩ | ⟨-, -, h'⟩ | ⟨-, -, -, -, h'⟩ | ⟨-, hmin, hmax, hheld, h'⟩ := syncTransition_cases m <;>
    rw [h'] at h <;> cases h
  have hlen : (m.take (expectedLen m)).length = expectedLen m := List.length_take_of_le hheld
  have hbyte : (m.take (expectedLen m)).getD 1 0#8 = m.getD 1 0#8 := by
    have : 1 < expectedLen m := by simp only [Config.minFrame] at hmin; omega
    simp [List.getD_eq_getElem?_getD, this]
  exact ⟨hmin.trans_eq hlen.symm, hlen.trans_le hmax, by rw [hlen, hbyte, expectedLen], (List.take_append_drop _ m).symm⟩

end Sys2Proof.Machine
end

section
/-! Proofs about the state (`10_state.md`): its reset values, the frame of every instruction, the outputs and flags, and
the invariant that every step keeps. -/

namespace Sys2Proof.Machine

/-! ### Reset (R34) -/

theorem resetCh_toList (p : Config.Params) : (resetCh p).toList =
    (List.range 16).map fun i => if i = p.throttleCh then BitVec.ofNat 7 Config.stickMinimum else p.stickCenter :=
  rfl

/-- Settles O7: channel `i` is entry `i` of the list `resetCh` is made of; the rest are the values `State.resetOf` and
`resetBlock` write. -/
theorem resetStateHasTheSpecValues : Obligations.ResetStateHasTheSpecValues := by
  unfold Obligations.ResetStateHasTheSpecValues
  refine ⟨fun p i hi => ?_, fun p => ⟨rfl, rfl, rfl, rfl⟩, fun s => ⟨_, rfl, rfl, rfl, rfl, rfl, rfl⟩, rfl⟩
  show (resetCh p).toList.getD i 0#7 = _
  simp [resetCh_toList, List.getD_eq_getElem?_getD, hi, Config.stickMinimum]

/-- The reset channels are in the stick range when STICK_CENTER is (R22). -/
theorem resetCh_le {p : Config.Params} (hp : p.legal) {v : ChanVal} (hv : v ∈ (resetCh p).toList) :
    v.toNat ≤ Config.stickMaximum := by
  obtain ⟨-, hcenter, -⟩ := hp
  rw [resetCh_toList, List.mem_map] at hv
  obtain ⟨i, -, rfl⟩ := hv
  split
  · decide
  · exact hcenter

theorem resetOf_inv {p : Config.Params} (hp : p.legal) : (State.resetOf p).Inv where
  legal := hp
  channels _ hv := resetCh_le hp hv
  reserved := BitVec.zero_and
  buffer := resetOf_wf p
  records := List.forall_mem_nil _
  annex := ⟨List.forall_mem_nil _, fun _ => rfl⟩

/-- Settles O46: at reset the channels are STICK_CENTER or STICK_MINIMUM, and the rest is empty or zero. -/
theorem resetMeetsTheInvariant : Obligations.ResetMeetsTheInvariant :=
  ⟨fun _ => resetOf_inv, resetOf_inv (by decide)⟩

/-! ### The frame of every instruction (R20, R33) -/

/-- Settles O41: an effect appends to an output or leaves it as it was; RXEVAL's records are the loop's. -/
theorem outputsAreOnlyAppendedTo : Obligations.OutputsAreOnlyAppendedTo := by
  unfold Obligations.OutputsAreOnlyAppendedTo
  refine ⟨fun p => ⟨rfl, rfl⟩, fun i s => ?_⟩
  obtain ⟨t, h⟩ := exists_effect i s
  refine ⟨t, h.exec_eq, ?_⟩
  cases h with
  | rxeval => exact ⟨fro_grows_rxLoop _ s, by simp, by simp⟩
  | _ => simp

/-- Settles O42: each effect is built from updates of the fields its own rule names, and the lemmas of those updates
give the rest of the frame. -/
theorem stateChangesOnlyByItsOwnCommands : Obligations.StateChangesOnlyByItsOwnCommands := by
  unfold Obligations.StateChangesOnlyByItsOwnCommands
  intro i s t h
  cases exec_eq_next_iff.mp h with
  | delivered hi => simp [hi, State.addTlm]
  | tooShort hi => simp [hi, State.addTlmRefused]
  | consumed hi => simp [hi]
  | _ => simp [packetOf]

/-! ### The flags (R26) -/

/-- Setting a flag clears none. -/
theorem flag_setFlag_of_flag {f : Flag} {s : State} (g : Flag) (h : s.flag f = true) : (s.setFlag g).flag f = true :=
  (hasFlag_withFlag g f s.status).trans (by simp [show hasFlag f s.status = true from h])

/-- Raising an error clears no flag (R237). -/
theorem flag_raise_of_flag {f : Flag} {s : State} (c : RespCode) (h : s.flag f = true) : (raise c s).flag f = true := by
  cases c with
  | ok => exact h
  | _ => exact flag_setFlag_of_flag _ h

/-- The synchronizer's loop clears no flag (R126, R131). -/
theorem flag_rxLoop_of_flag {f : Flag} {s : State} (n : Nat) (h : s.flag f = true) : (rxLoop n s).flag f = true := by
  refine rxLoop_induction (P := fun u => u.flag f = true) n s h ?_ ?_
  · intro u g _ hu
    exact flag_setFlag_of_flag g (s := u) hu
  · intro u F rest _ hu
    rw [reportFrame_eq]
    split
    · exact hu
    · exact flag_setFlag_of_flag .crcerr (s := u) hu

/-- Settles O43: an error and RXEVAL only set flags, STCLR clears those of its mask but RXOVF, and no other instruction
but SRST writes STATUS. -/
theorem flagsAreSticky : Obligations.FlagsAreSticky := by
  unfold Obligations.FlagsAreSticky
  intro i s f hi hf
  obtain ⟨t, h⟩ := exists_effect i s
  refine ⟨t, h.exec_eq, ?_⟩
  cases h with
  | srst => exact absurd rfl hi
  | @stclr _ b =>
    have hclear := hasFlag_clearFlags f b s.status
    cases hb : b.getLsbD (flagBit f) && decide (f ≠ .rxovf) with
    | true => exact .inr ⟨b, rfl, by simpa using hb⟩
    | false =>
      rw [hb, show hasFlag f s.status = true from hf] at hclear
      exact .inl hclear
  | rxeval => exact .inl (flag_rxLoop_of_flag _ hf)
  | rdregReserved | rxpushFull | chsetValue | chsetIndex | pldsetIndex => exact .inl (flag_raise_of_flag _ hf)
  | _ => exact .inl hf

/-- A register other than STATUS reads the same whatever STATUS is (R28). -/
theorem readRegister_setStatus {a : Byte} (ha : a ≠ 0x00#8) (x : Byte) (s : State) :
    readRegister a (s.setStatus x) = readRegister a s := by
  rw [readRegister, readRegister, if_neg ha, if_neg ha]
  rfl

theorem reportFrame_setStatus (F : List Byte) (x : Byte) (s : State) :
    ∃ y, reportFrame F (s.setStatus x) = (reportFrame F s).setStatus y := by
  simp only [reportFrame_eq]
  split <;> exact ⟨_, rfl⟩

/-- The loop's transitions are called for by the buffer alone (R125). -/
theorem rxLoop_setStatus (n : Nat) (x : Byte) (s : State) :
    ∃ y, rxLoop n (s.setStatus x) = (rxLoop n s).setStatus y := by
  induction n generalizing s x with
  | zero => exact ⟨x, rfl⟩
  | succ n ih =>
    rw [rxLoop_succ, rxLoop_succ, State.setStatus_rxbuf]
    split
    · exact ⟨x, rfl⟩
    · next f h => exact ih (withFlag f x) ((s.setFlag f).setRxbuf [])
    · next F rest h =>
      obtain ⟨y, hy⟩ := reportFrame_setStatus F x (s.setRxbuf rest)
      obtain ⟨z, hz⟩ := ih y (reportFrame F (s.setRxbuf rest))
      exact ⟨z, (congrArg (rxLoop n) hy).trans hz⟩

/-- Whatever STATUS is beforehand, an instruction other than a read of STATUS has the same effect on all else. -/
theorem Effect.setStatus {i : Instr} {s t : State} (h : Effect i s t) (hi : i ≠ .rdreg 0x00#8) (x : Byte) :
    ∃ y, Effect i (s.setStatus x) (t.setStatus y) := by
  cases h with
  | nop => exact ⟨x, .nop⟩
  | rdreg h =>
    have ha := fun h0 => hi (congrArg Instr.rdreg h0)
    exact ⟨x, .rdreg ((readRegister_setStatus ha x s).trans h)⟩
  | rdregReserved h =>
    have ha := fun h0 => hi (congrArg Instr.rdreg h0)
    exact ⟨withFlag .illcmd x, .rdregReserved ((readRegister_setStatus ha x s).trans h)⟩
  | @stclr _ b => exact ⟨clearFlags b x, .stclr⟩
  | srst => exact ⟨resetStatus, .srst⟩
  | crcclr => exact ⟨x, .crcclr⟩
  | crcb => exact ⟨x, .crcb⟩
  | rxpush h => exact ⟨x, .rxpush h⟩
  | rxpushFull h => exact ⟨withFlag .rxovf x, .rxpushFull h⟩
  | rxeval =>
    obtain ⟨y, hy⟩ := rxLoop_setStatus (rxIterations s) x s
    have : respond .ok 0x00#8 (rxLoop (rxIterations s) (s.setStatus x)) =
        (respond .ok 0x00#8 (rxLoop (rxIterations s) s)).setStatus y := congrArg (respond .ok 0x00#8) hy
    exact ⟨y, this ▸ .rxeval⟩
  | chset ha hb => exact ⟨x, .chset ha hb⟩
  | chsetValue ha hb => exact ⟨withFlag .range x, .chsetValue ha hb⟩
  | chsetIndex ha => exact ⟨withFlag .illcmd x, .chsetIndex ha⟩
  | txpack => exact ⟨x, .txpack⟩
  | pldset ha => exact ⟨x, .pldset ha⟩
  | pldsetIndex ha => exact ⟨withFlag .illcmd x, .pldsetIndex ha⟩
  | txwrap => exact ⟨x, .txwrap⟩
  | txsend => exact ⟨x, .txsend⟩
  | delivered hi' hq hx hl => exact ⟨x, .delivered (s := s.setStatus x) hi' hq hx hl⟩
  | tooShort hi' hq hx hl => exact ⟨x, .tooShort (s := s.setStatus x) hi' hq hx hl⟩
  | consumed hi' hq => exact ⟨x, .consumed hi' hq⟩

/-- Settles O44: a read of STATUS answers another byte and does no more; every other instruction's effect differs in
STATUS alone. -/
theorem flagsNeverDecideAnything : Obligations.FlagsNeverDecideAnything := by
  unfold Obligations.FlagsNeverDecideAnything
  intro i s x
  by_cases hi : i = .rdreg 0x00#8
  · subst hi
    exact ⟨_, _, rfl, rfl, rfl, fun h => absurd rfl h⟩
  · obtain ⟨t, ht⟩ := exists_effect i s
    obtain ⟨y, hu⟩ := ht.setStatus hi x
    exact ⟨t, t.setStatus y, ht.exec_eq, hu.exec_eq, rfl, fun _ => rfl⟩

/-! ### The invariant -/

/-- A state that differs only in fields the invariant does not speak of meets it too. -/
theorem State.Inv.congr {s t : State} (h : s.Inv)
    (ht : t = { s with txp := t.txp, crcAcc := t.crcAcc, por := t.por, cmds := t.cmds, resp := t.resp, txs := t.txs,
                       tlm := t.tlm, tlmRefused := t.tlmRefused }) : t.Inv := by
  rw [ht]
  exact ⟨h.legal, h.channels, h.reserved, h.buffer, h.records, h.annex⟩

theorem State.Inv.setStatus {s : State} (h : s.Inv) {st : Byte} (hst : st &&& 0xC0#8 = 0#8) : (s.setStatus st).Inv :=
  ⟨h.legal, h.channels, hst, h.buffer, h.records, h.annex⟩

theorem State.Inv.setFlag {s : State} (h : s.Inv) (f : Flag) : (s.setFlag f).Inv :=
  h.setStatus ((withFlag_reserved f s.status).trans h.reserved)

theorem State.Inv.setRxbuf {s : State} (h : s.Inv) {m : List Byte} (hm : Memory.wf s.params.rxbufCap m) :
    (s.setRxbuf m).Inv :=
  ⟨h.legal, h.channels, h.reserved, hm, h.records, h.annex⟩

/-- The annex unit's input may lose its oldest frame (R200). -/
theorem State.Inv.setTlmIn_tail {s : State} (h : s.Inv) {F : List Byte} {Fs : List (List Byte)}
    (hF : s.tlmIn = F :: Fs) : (s.setTlmIn Fs).Inv := by
  obtain ⟨hvalid, habsent⟩ := h.annex
  refine ⟨h.legal, h.channels, h.reserved, h.buffer, h.records, fun G hG => hvalid G ?_, fun hx => ?_⟩
  · exact hF ▸ List.mem_cons_of_mem F hG
  · exact absurd (hF.symm.trans (habsent hx)) (List.cons_ne_nil F Fs)

theorem State.Inv.raise {s : State} (h : s.Inv) (c : RespCode) : (raise c s).Inv := by
  cases c with
  | ok => exact h.congr rfl
  | _ => exact (h.setFlag _).congr rfl

/-- Reporting a candidate of legal length whose length byte is in place keeps the invariant (R76, R131, R133). -/
theorem State.Inv.reportFrame {s : State} (h : s.Inv) {F : List Byte} (hmin : Config.minFrame ≤ F.length)
    (hmax : F.length ≤ Config.maxFrame) (hlen : F.length = (F.getD 1 0#8).toNat + 2) : (reportFrame F s).Inv := by
  obtain ⟨hvalid, habsent⟩ := h.annex
  rw [reportFrame_eq]
  split
  · next hv =>
    refine ⟨h.legal, h.channels, h.reserved, h.buffer, ?_, ?_, fun hx => ?_⟩
    · exact List.forall_mem_append.mpr
        ⟨h.records, List.forall_mem_singleton.mpr ⟨hmin, hmax, hlen, rfl, iff_of_true rfl hv⟩⟩
    · show ∀ G ∈ (if s.params.hasTlmx then s.tlmIn ++ [F] else s.tlmIn), validFrame G
      split
      · exact List.forall_mem_append.mpr ⟨hvalid, List.forall_mem_singleton.mpr ⟨hmin, hmax, hlen, hv⟩⟩
      · exact hvalid
    · exact (if_neg (Bool.eq_false_iff.mp hx)).trans (habsent hx)
  · next hv =>
    refine ⟨h.legal, h.channels, (withFlag_reserved .crcerr s.status).trans h.reserved, h.buffer, ?_, h.annex⟩
    exact List.forall_mem_append.mpr
      ⟨h.records, List.forall_mem_singleton.mpr ⟨hmin, hmax, hlen, rfl, iff_of_false FroKind.noConfusion hv⟩⟩

/-- Every transition of the synchronizer keeps the invariant (R126, R130, R131, R133). -/
theorem State.Inv.rxLoop {s : State} (h : s.Inv) (n : Nat) : (rxLoop n s).Inv := by
  refine rxLoop_induction (P := State.Inv) n s h (fun u f _ hu => (hu.setFlag f).setRxbuf (nil_wf _)) ?_
  intro u F rest hready hu
  obtain ⟨hmin, hmax, hlen, hbuf⟩ := frameReady_spec hready
  have hrest : Memory.wf u.params.rxbufCap rest := by
    have hfits : u.rxbuf.length ≤ u.params.rxbufCap := hu.buffer
    rw [hbuf, List.length_append] at hfits
    exact le_trans (Nat.le_add_left _ _) hfits
  exact (hu.setRxbuf hrest).reportFrame hmin hmax hlen

/-- A value CHSET accepts is in the stick range as a channel too (R22, R150). -/
theorem chanBits_le {b : Byte} (hb : stickInRange (signed8 b)) : (chanBits b).toNat ≤ Config.stickMaximum := by
  simp only [stickInRange, signed8, Config.stickMinimum, Config.stickMaximum, BitVec.toInt_eq_toNat_cond] at hb
  have hbits : (chanBits b).toNat = b.toNat % 128 := by simp [chanBits]
  rw [hbits, Config.stickMaximum]
  split at hb <;> omega

theorem State.Inv.setCh_setIfInBounds {s : State} (h : s.Inv) (k : Nat) {v : ChanVal}
    (hv : v.toNat ≤ Config.stickMaximum) : (s.setCh (s.ch.setIfInBounds k v)).Inv := by
  refine ⟨h.legal, fun w hw => ?_, h.reserved, h.buffer, h.records, h.annex⟩
  have hset : w ∈ s.ch.toList.set k v := by simpa using hw
  obtain hold | rfl := List.mem_or_eq_of_mem_set hset
  · exact h.channels w hold
  · exact hv

/-- Every instruction keeps the invariant. -/
theorem Effect.keeps_inv {i : Instr} {s t : State} (he : Effect i s t) (h : s.Inv) : t.Inv := by
  cases he with
  | @stclr _ b => exact (h.setStatus (clearFlags_reserved b s.status h.reserved)).congr rfl
  | srst =>
    have hreset : (resetBlock s).Inv :=
      ⟨h.legal, fun _ hv => resetCh_le h.legal hv, BitVec.zero_and, nil_wf _, h.records, h.annex⟩
    exact hreset.congr rfl
  | rxpush hroom => exact (h.setRxbuf (memAppend_wf _ hroom)).congr rfl
  | rxeval => exact (h.rxLoop _).congr rfl
  | chset _ hb => exact (h.setCh_setIfInBounds _ (chanBits_le hb)).congr rfl
  | rdregReserved | rxpushFull | chsetValue | chsetIndex | pldsetIndex => exact h.raise _
  | _ => exact h.congr rfl

theorem exec_keeps_inv {i : Instr} {s t : State} (he : exec i s = .next t) (h : s.Inv) : t.Inv :=
  (exec_eq_next_iff.mp he).keeps_inv h

theorem stepWord_keeps_inv {w : CmdWord} {s t : State} (hs : stepWord w s = .next t) (h : s.Inv) : t.Inv := by
  cases hd : decode (.word w) with
  | ok i => exact exec_keeps_inv ((stepWord_of_decodes hd s).symm.trans hs) h
  | error e =>
    rw [stepWord_of_rejected hd] at hs
    cases hs
    exact h.raise .eIllegal

theorem stepFrame_keeps_inv {F : List Byte} {s t : State} (hs : stepFrame F s = .next t) (h : s.Inv) : t.Inv := by
  cases hd : decode (.frame F) with
  | ok i => exact exec_keeps_inv ((stepFrame_of_decodes hd s).symm.trans hs) h
  | error e =>
    rw [stepFrame_of_rejected hd] at hs
    cases hs
    exact h

/-- Settles O45: power-on reset reaches the reset state of the same legal build; a step that takes a frame or a word
runs one instruction, consumes the frame, or raises E_ILLEGAL; and an idle step changes nothing. -/
theorem stepKeepsTheInvariant : Obligations.StepKeepsTheInvariant := by
  unfold Obligations.StepKeepsTheInvariant
  intro s t h hs
  cases hpor : s.por with
  | true =>
    rw [step_of_por hpor] at hs
    cases hs
    exact (resetOf_inv h.legal).congr rfl
  | false =>
    cases hF : s.tlmIn with
    | cons F Fs => exact stepFrame_keeps_inv ((step_of_frame hpor hF).symm.trans hs) (h.setTlmIn_tail hF)
    | nil =>
      cases hw : s.cmds with
      | cons w ws => exact stepWord_keeps_inv ((step_of_word hpor hF hw).symm.trans hs) (h.congr rfl)
      | nil =>
        rw [step_of_idle hpor hF hw] at hs
        cases hs
        exact h

end Sys2Proof.Machine
end

section
/-! Proofs about the packer's bit order (`20_memory.md` R51; `42_packer.md` R154): the bytes out and the pending bits
together always are the number whose fields are the channels packed so far. -/

namespace Sys2Proof.Machine

/-! ### The number of a list of fields -/

/-- The number whose field `i`, lowest first, is entry `i` of a list: R157's number of a payload for bytes, and the same
of 11-bit fields for channels. -/
def fieldsNumber {w : Nat} (l : List (BitVec w)) : Nat := Nat.ofDigits (2 ^ w) (l.map BitVec.toNat)

theorem fieldsNumber_cons {w : Nat} (v : BitVec w) (l : List (BitVec w)) :
    fieldsNumber (v :: l) = 2 ^ w * fieldsNumber l + v.toNat := by
  simp [fieldsNumber, Nat.ofDigits_cons, Nat.add_comm]

theorem fieldsNumber_concat {w : Nat} (l : List (BitVec w)) (v : BitVec w) :
    fieldsNumber (l ++ [v]) = fieldsNumber l + 2 ^ (w * l.length) * v.toNat := by
  simp [fieldsNumber, Nat.ofDigits_append, pow_mul]

theorem payloadNumber_eq_fieldsNumber (P : List Byte) : payloadNumber P = fieldsNumber P := by
  induction P with
  | nil => rfl
  | cons b P ih => rw [payloadNumber, fieldsNumber_cons, ih]; exact Nat.add_comm _ _

/-- Bit `k` of the number is bit `k mod w` of field `k / w`. -/
theorem testBit_fieldsNumber {w : Nat} (hw : 0 < w) (l : List (BitVec w)) (k : Nat) :
    (fieldsNumber l).testBit k = (l.getD (k / w) 0#w).getLsbD (k % w) := by
  induction l generalizing k with
  | nil => simp [fieldsNumber]
  | cons v l ih =>
    rw [fieldsNumber_cons, Nat.testBit_two_pow_mul_add _ v.isLt]
    split
    · next h => simp [Nat.div_eq_of_lt h, Nat.mod_eq_of_lt h, BitVec.getLsbD]
    · next h =>
      have hle : w ≤ k := Nat.le_of_not_lt h
      rw [ih, Nat.div_eq_sub_div hw hle, Nat.mod_eq_sub_mod hle, List.getD_cons_succ]

/-! ### What the packer holds (R154) -/

/-- The packer has taken in exactly the channels `ms`: the bytes out, then the pending bits, make up their number. -/
structure Packing.Holds (k : Packing) (ms : List WireVal) : Prop where
  number : fieldsNumber k.out + 2 ^ (8 * k.out.length) * k.acc = fieldsNumber ms
  bits : 8 * k.out.length + k.nb = 11 * ms.length
  pending : k.acc < 2 ^ k.nb

/-- Moving the low eight pending bits to the bytes out loses none. -/
theorem Packing.Holds.flushByte {k : Packing} {ms : List WireVal} (h : k.Holds ms) (hnb : 8 ≤ k.nb) :
    Packing.Holds ⟨k.acc >>> 8, k.nb - 8, k.out ++ [BitVec.ofNat 8 k.acc]⟩ ms := by
  obtain ⟨hnumber, hbits, hpending⟩ := h
  have hlength : (k.out ++ [BitVec.ofNat 8 k.acc]).length = k.out.length + 1 := by simp
  refine ⟨?_, ?_, ?_⟩
  · have hacc : k.acc % 2 ^ 8 + 2 ^ 8 * (k.acc / 2 ^ 8) = k.acc := Nat.mod_add_div _ _
    calc fieldsNumber (k.out ++ [BitVec.ofNat 8 k.acc]) +
          2 ^ (8 * (k.out ++ [BitVec.ofNat 8 k.acc]).length) * (k.acc >>> 8)
        = fieldsNumber k.out + 2 ^ (8 * k.out.length) * (k.acc % 2 ^ 8 + 2 ^ 8 * (k.acc / 2 ^ 8)) := by
          rw [fieldsNumber_concat, hlength, Nat.mul_add_one, pow_add, Nat.shiftRight_eq_div_pow, BitVec.toNat_ofNat]
          ring
      _ = fieldsNumber ms := by rw [hacc, hnumber]
  · show 8 * (k.out ++ [BitVec.ofNat 8 k.acc]).length + (k.nb - 8) = 11 * ms.length
    omega
  · show k.acc >>> 8 < 2 ^ (k.nb - 8)
    rwa [Nat.shiftRight_eq_div_pow, Nat.div_lt_iff_lt_mul (by decide), ← pow_add, Nat.sub_add_cancel hnb]

theorem Packing.Holds.packFlush {k : Packing} {ms : List WireVal} (h : k.Holds ms) (n : Nat) :
    (packFlush n k).Holds ms := by
  induction n generalizing k with
  | zero => exact h
  | succ n ih =>
    rw [Machine.packFlush]
    split
    · next hnb => exact ih (h.flushByte hnb)
    · exact h

/-- Enough flushes leave less than a byte pending. -/
theorem packFlush_nb_lt (n : Nat) {k : Packing} (h : k.nb < 8 * (n + 1)) : (packFlush n k).nb < 8 := by
  induction n generalizing k with
  | zero => exact h
  | succ n ih =>
    rw [packFlush]
    split
    · exact ih (k := ⟨_, _, _⟩) (by simp only; omega)
    · next hnb => exact Nat.lt_of_not_le hnb

/-- The OR of R154 puts the channel above all pending bits. -/
theorem Packing.Holds.packStep {k : Packing} {ms : List WireVal} (h : k.Holds ms) (m : WireVal) :
    (packStep k m).Holds (ms ++ [m]) := by
  have hor : k.acc ||| (m.toNat <<< k.nb) = k.acc + 2 ^ k.nb * m.toNat := by
    rw [Nat.or_comm, Nat.shiftLeft_eq, Nat.mul_comm, ← Nat.two_pow_add_eq_or_of_lt h.pending, Nat.add_comm]
  refine Packing.Holds.packFlush ⟨?_, ?_, ?_⟩ 2
  · calc fieldsNumber k.out + 2 ^ (8 * k.out.length) * (k.acc ||| (m.toNat <<< k.nb))
        = fieldsNumber k.out + 2 ^ (8 * k.out.length) * k.acc + 2 ^ (8 * k.out.length + k.nb) * m.toNat := by
          rw [hor, pow_add]; ring
      _ = fieldsNumber (ms ++ [m]) := by rw [h.number, h.bits, fieldsNumber_concat]
  · have := h.bits
    simp only [Config.chBits, List.length_append, List.length_singleton]
    omega
  · exact Nat.or_lt_two_pow (h.pending.trans_le (Nat.pow_le_pow_right (by decide) (Nat.le_add_right _ _)))
      (by rw [Nat.shiftLeft_eq, Nat.add_comm, pow_add]; exact Nat.mul_lt_mul_of_pos_right m.isLt (Nat.two_pow_pos _))

/-- Less than a byte is pending between channels. -/
theorem packStep_nb_lt {k : Packing} (h : k.nb < 8) (m : WireVal) : (packStep k m).nb < 8 :=
  packFlush_nb_lt 2 (k := ⟨_, _, _⟩) (by simp only [Config.chBits]; omega)

/-- After any channels the packer holds them, with less than a byte pending. -/
theorem foldl_packStep_holds (ms : List WireVal) :
    (ms.foldl packStep ⟨0, 0, []⟩).Holds ms ∧ (ms.foldl packStep ⟨0, 0, []⟩).nb < 8 := by
  induction ms using List.reverseRecOn with
  | nil => exact ⟨⟨rfl, rfl, Nat.one_pos⟩, by decide⟩
  | append_singleton ms m ih =>
    obtain ⟨hholds, hnb⟩ := ih
    rw [List.foldl_concat]
    exact ⟨hholds.packStep m, packStep_nb_lt hnb m⟩

/-- The packed bytes are as many as the channels' bits need, and are the channels' number (R51, R154, R157). -/
theorem pack16_spec (ms : List WireVal) :
    (pack16 ms).length = (11 * ms.length + 7) / 8 ∧ payloadNumber (pack16 ms) = fieldsNumber ms := by
  obtain ⟨⟨hnumber, hbits, hpending⟩, hnb⟩ := foldl_packStep_holds ms
  rw [payloadNumber_eq_fieldsNumber, pack16]
  split
  · have hacc := hpending.trans_le (Nat.pow_le_pow_right (by decide) hnb.le)
    refine ⟨?_, ?_⟩
    · rw [List.length_append, List.length_singleton]; omega
    · rw [fieldsNumber_concat, BitVec.toNat_ofNat, Nat.mod_eq_of_lt hacc, hnumber]
  · next h =>
    have hnb0 := Nat.eq_zero_of_not_pos h
    rw [hnb0] at hbits hpending
    rw [Nat.lt_one_iff.mp hpending, Nat.mul_zero, Nat.add_zero] at hnumber
    exact ⟨by omega, hnumber⟩

/-! ### The obligation -/

/-- Settles O31: the payload and the channels are one number, whose bit `k` is read off its 8-bit fields and off its
11-bit fields. -/
theorem payloadBitsAreTheChannelBits : Obligations.PayloadBitsAreTheChannelBits := by
  unfold Obligations.PayloadBitsAreTheChannelBits
  intro m
  obtain ⟨hlength, hnumber⟩ := pack16_spec m.toList
  refine ⟨by rw [hlength, Vector.length_toList], fun k _ => ?_⟩
  rw [← testBit_fieldsNumber (by decide), ← testBit_fieldsNumber (by decide), ← payloadNumber_eq_fieldsNumber,
    hnumber]

end Sys2Proof.Machine
end

section
/-! Proofs about the independence of the paths (`20_memory.md` R61): a command of a path reads and writes its path's
part of the state alone, sets flags without reading any, and answers one response. -/

namespace Sys2Proof.Machine

/-! ### Setting several flags (R26) -/

/-- STATUS with flags set, in the order of the list. -/
def withFlags (fs : List Flag) (st : Byte) : Byte := fs.foldl (fun st f => withFlag f st) st

theorem withFlags_append (fs gs : List Flag) (st : Byte) :
    withFlags (fs ++ gs) st = withFlags gs (withFlags fs st) :=
  List.foldl_append

/-- The order in which flags are set does not matter (R61). -/
theorem withFlags_comm (fs gs : List Flag) (st : Byte) :
    withFlags fs (withFlags gs st) = withFlags gs (withFlags fs st) := by
  rw [← withFlags_append, ← withFlags_append]
  exact List.perm_append_comm.foldl_eq' (fun f _ g _ st => withFlag_comm g f st) st

/-- Set the flags of a list in STATUS. -/
def State.setFlags (fs : List Flag) (s : State) : State := s.setStatus (withFlags fs s.status)

/-! ### A path's part of the state (R61) -/

/-- `x` with the part of the state that path `p` reads and writes, STATUS apart, and the parameters taken from `s`. -/
def State.withPath (x : State) (p : Path) (s : State) : State :=
  match p with
  | .rx => { x with params := s.params, rxbuf := s.rxbuf, fro := s.fro, tlmIn := s.tlmIn }
  | .tx => { x with params := s.params, ch := s.ch, txp := s.txp, txs := s.txs }
  | .crc => { x with params := s.params, crcAcc := s.crcAcc }

@[simp] theorem State.withPath_self (p : Path) (s : State) : s.withPath p s = s := by cases p <;> rfl

/-- `x` after a command of path `p` that leaves the path's part as it is in `t`, sets the flags `fs` and answers `r`. -/
def State.afterCommand (x : State) (p : Path) (t : State) (fs : List Flag) (r : RespWord) : State :=
  ((x.withPath p t).setFlags fs).addResp r

@[simp] theorem State.afterCommand_resp (x : State) (p : Path) (t : State) (fs : List Flag) (r : RespWord) :
    (x.afterCommand p t fs r).resp = x.resp ++ [r] := by
  cases p <;> rfl

/-- A command of one path leaves another path's part as it was. -/
theorem State.withPath_afterCommand {p q : Path} (hpq : p ≠ q) {s t : State} (ht : t.params = s.params)
    (fs : List Flag) (r : RespWord) : (s.afterCommand p t fs r).withPath q s = s.afterCommand p t fs r := by
  cases p <;> cases q <;> simp [afterCommand, withPath, setFlags, setStatus, addResp, ht] at hpq ⊢

/-- Commands of two paths leave the same state in either order, but for the order of their responses. -/
theorem State.afterCommand_comm {p q : Path} (hpq : p ≠ q) {t u : State} (htu : t.params = u.params)
    (fs gs : List Flag) (r r' : RespWord) (x : State) :
    (x.afterCommand q u gs r').afterCommand p t fs r =
      { (x.afterCommand p t fs r).afterCommand q u gs r' with resp := x.resp ++ [r', r] } := by
  have hst := withFlags_comm fs gs x.status
  cases p <;> cases q <;> simp [afterCommand, withPath, setFlags, setStatus, addResp, htu, hst] at hpq ⊢

/-! ### A command acts on its path alone -/

theorem Effect.params_eq {i : Instr} {s t : State} (h : Effect i s t) : t.params = s.params := by
  cases h with
  | _ => simp

/-- Reporting a candidate reads and writes the receive path's part, and may set CRCERR (R131, R133). -/
theorem reportFrame_withPath (F : List Byte) (s : State) : ∃ fs, ∀ x : State,
    reportFrame F (x.withPath .rx s) = (x.setFlags fs).withPath .rx (reportFrame F s) := by
  simp only [reportFrame_eq]
  split
  · exact ⟨[], fun _ => rfl⟩
  · exact ⟨[.crcerr], fun _ => rfl⟩

/-- The synchronizer's loop reads and writes the receive path's part, and sets flags (R125). -/
theorem rxLoop_withPath (n : Nat) (s : State) : ∃ fs, ∀ x : State,
    rxLoop n (x.withPath .rx s) = (x.withPath .rx (rxLoop n s)).setFlags fs := by
  induction n generalizing s with
  | zero => exact ⟨[], fun _ => rfl⟩
  | succ n ih =>
    cases h : syncTransition s.rxbuf with
    | accumulating =>
      refine ⟨[], fun x => ?_⟩
      rw [rxLoop_accumulating (n + 1) h]
      exact rxLoop_accumulating (n + 1) (s := x.withPath .rx s) h
    | corrupt f =>
      obtain ⟨fs, hfs⟩ := ih ((s.setFlag f).setRxbuf [])
      refine ⟨f :: fs, fun x => ?_⟩
      rw [rxLoop_succ, rxLoop_succ, show (x.withPath .rx s).rxbuf = s.rxbuf from rfl, h]
      exact hfs (x.setFlag f)
    | frameReady F rest =>
      obtain ⟨gs, hgs⟩ := reportFrame_withPath F (s.setRxbuf rest)
      obtain ⟨fs, hfs⟩ := ih (reportFrame F (s.setRxbuf rest))
      refine ⟨gs ++ fs, fun x => ?_⟩
      rw [rxLoop_succ, rxLoop_succ, show (x.withPath .rx s).rxbuf = s.rxbuf from rfl, h, State.setFlags,
        withFlags_append]
      exact (congrArg (rxLoop n) (hgs x)).trans (hfs (x.setFlags gs))

@[simp] theorem pathOf_packetInstr (q : Config.PacketType) (f : Frame) : pathOf (packetInstr q f) = none := by
  cases q <;> rfl

/-- What a command of a path does is decided by the path's part and is the same whatever the rest of the state is. -/
theorem Effect.withPath {i : Instr} {p : Path} {s t : State} (h : Effect i s t) (hp : pathOf i = some p) :
    ∃ fs r, ∀ x : State, Effect i (x.withPath p s) (x.afterCommand p t fs r) := by
  cases h with
  | rxpush h => cases hp; exact ⟨[], _, fun x => .rxpush (s := x.withPath .rx _) h⟩
  | rxpushFull h => cases hp; exact ⟨[.rxovf], _, fun x => .rxpushFull (s := x.withPath .rx _) h⟩
  | rxeval =>
    cases hp
    obtain ⟨fs, hfs⟩ := rxLoop_withPath (rxIterations s) s
    refine ⟨fs, respWord .ok 0x00#8, fun x => ?_⟩
    have hx : respond .ok 0x00#8 (rxLoop (rxIterations s) (x.withPath .rx s)) =
        x.afterCommand .rx (rxLoop (rxIterations s) s) fs (respWord .ok 0x00#8) := congrArg (respond .ok 0x00#8) (hfs x)
    exact hx ▸ .rxeval (s := x.withPath .rx s)
  | chset ha hb => cases hp; exact ⟨[], _, fun x => .chset (s := x.withPath .tx s) ha hb⟩
  | chsetValue ha hb => cases hp; exact ⟨[.range], _, fun x => .chsetValue ha hb⟩
  | chsetIndex ha => cases hp; exact ⟨[.illcmd], _, fun x => .chsetIndex ha⟩
  | txpack => cases hp; exact ⟨[], _, fun x => .txpack (s := x.withPath .tx s)⟩
  | pldset ha => cases hp; exact ⟨[], _, fun x => .pldset (s := x.withPath .tx s) ha⟩
  | pldsetIndex ha => cases hp; exact ⟨[.illcmd], _, fun x => .pldsetIndex ha⟩
  | txwrap => cases hp; exact ⟨[], _, fun x => .txwrap (s := x.withPath .tx s)⟩
  | txsend => cases hp; exact ⟨[], _, fun x => .txsend (s := x.withPath .tx s)⟩
  | crcclr => cases hp; exact ⟨[], _, fun x => .crcclr (s := x.withPath .crc s)⟩
  | crcb => cases hp; exact ⟨[], _, fun x => .crcb (s := x.withPath .crc s)⟩
  | nop | rdreg | rdregReserved | stclr | srst => cases hp
  | delivered hi | tooShort hi | consumed hi => simp [packetInstr_of_packetOf hi] at hp

/-! ### The obligation -/

/-- Settles O38: each command acts on its own path's part, which the other leaves as it was, and the flags they set
commute. -/
theorem commandsOfDifferentPathsCommute : Obligations.CommandsOfDifferentPathsCommute := by
  unfold Obligations.CommandsOfDifferentPathsCommute
  intro i j p q s hi hj hpq
  obtain ⟨t, ht⟩ := exists_effect i s
  obtain ⟨u, hu⟩ := exists_effect j s
  obtain ⟨fs, ri, hti⟩ := ht.withPath hi
  obtain ⟨gs, rj, huj⟩ := hu.withPath hj
  have hfirst_i := hti s
  have hfirst_j := huj s
  have hthen_j := huj (s.afterCommand p t fs ri)
  have hthen_i := hti (s.afterCommand q u gs rj)
  rw [State.withPath_self] at hfirst_i hfirst_j
  rw [State.withPath_afterCommand hpq ht.params_eq] at hthen_j
  rw [State.withPath_afterCommand hpq.symm hu.params_eq] at hthen_i
  refine ⟨_, _, _, _, ri, rj, hfirst_i.exec_eq, hthen_j.exec_eq, hfirst_j.exec_eq, hthen_i.exec_eq, ?_, ?_, ?_⟩
  · simp
  · simp
  · have hcomm := State.afterCommand_comm hpq (ht.params_eq.trans hu.params_eq.symm) fs gs ri rj s
    simpa using hcomm

end Sys2Proof.Machine
end

section
/-! Proofs about the encoding (`30_encoding.md` R70 to R75, R79, R85, R89): the decoder reads exactly what the encoder
writes, the opcode table covers exactly the command words, and each command answers one response. -/

namespace Sys2Proof

open Machine

/-! ### Command words (R70 to R73) -/

/-- A word whose fields are those of an instruction's encoding is that encoding. -/
theorem encode_eq_word_of_fields {i : Instr} {op a b : Byte} {w : CmdWord} (hi : encode i = .word (mkWord op a b))
    (hop : opField w = op) (ha : aField w = a) (hb : bField w = b) : encode i = .word w := by
  rw [hi, ← hop, ← ha, ← hb, mkWord_fields]

theorem encode_of_formatN {i j : Instr} {op : Byte} {w : CmdWord} (hi : encode i = .word (mkWord op 0#8 0#8))
    (hop : opField w = op) (h : formatN w i = .ok j) : encode j = .word w := by
  rw [formatN] at h
  split at h
  next hab => cases h; exact encode_eq_word_of_fields hi hop hab.1 hab.2
  next => cases h

theorem encode_of_formatB {k : Byte → Instr} {j : Instr} {op : Byte} {w : CmdWord}
    (hk : ∀ b, encode (k b) = .word (mkWord op 0#8 b)) (hop : opField w = op) (h : formatB w k = .ok j) :
    encode j = .word w := by
  rw [formatB] at h
  split at h
  next ha => cases h; exact encode_eq_word_of_fields (hk _) hop ha rfl
  next => cases h

theorem encode_of_formatA {k : Byte → Instr} {j : Instr} {op : Byte} {w : CmdWord}
    (hk : ∀ a, encode (k a) = .word (mkWord op a 0#8)) (hop : opField w = op) (h : formatA w k = .ok j) :
    encode j = .word w := by
  rw [formatA] at h
  split at h
  next hb => cases h; exact encode_eq_word_of_fields (hk _) hop rfl hb
  next => cases h

theorem encode_of_formatAB {k : Byte → Byte → Instr} {j : Instr} {op : Byte} {w : CmdWord}
    (hk : ∀ a b, encode (k a b) = .word (mkWord op a b)) (hop : opField w = op) (h : formatAB w k = .ok j) :
    encode j = .word w := by
  cases h
  exact encode_eq_word_of_fields (hk _ _) hop rfl rfl

/-- A test of the decoder, each way leading back to the word. -/
theorem encode_of_ite {c : Prop} [Decidable c] {x y : Except DecodeError Instr} {i : Instr} {w : CmdWord}
    (hthen : c → x = .ok i → encode i = .word w) (helse : y = .ok i → encode i = .word w)
    (h : (if c then x else y) = .ok i) : encode i = .word w := by
  obtain ⟨hc, hx⟩ | ⟨-, hy⟩ := ite_eq_iff.mp h
  · exact hthen hc hx
  · exact helse hy

/-- The command a word decodes to has that word as its encoding: one test for each opcode of R72, in the decoder's
order. -/
theorem encode_of_decodeWord {w : CmdWord} {i : Instr} : decodeWord w = .ok i → encode i = .word w := by
  unfold decodeWord
  exact
    encode_of_ite (encode_of_formatN (i := .nop) rfl) <|
    encode_of_ite (encode_of_formatA (k := .rdreg) fun _ => rfl) <|
    encode_of_ite (encode_of_formatB (k := .stclr) fun _ => rfl) <|
    encode_of_ite (encode_of_formatN (i := .srst) rfl) <|
    encode_of_ite (encode_of_formatN (i := .crcclr) rfl) <|
    encode_of_ite (encode_of_formatB (k := .crcb) fun _ => rfl) <|
    encode_of_ite (encode_of_formatB (k := .rxpush) fun _ => rfl) <|
    encode_of_ite (encode_of_formatN (i := .rxeval) rfl) <|
    encode_of_ite (encode_of_formatAB (k := .chset) fun _ _ => rfl) <|
    encode_of_ite (encode_of_formatN (i := .txpack) rfl) <|
    encode_of_ite (encode_of_formatAB (k := .pldset) fun _ _ => rfl) <|
    encode_of_ite (encode_of_formatN (i := .txwrap) rfl) <|
    encode_of_ite (encode_of_formatN (i := .txsend) rfl) nofun

theorem decode_encode_of_command {i : Instr} (hi : packetOf i = none) : decode (encode i) = .ok i := by
  cases i with
  | nop | srst | crcclr | rxeval | txpack | txwrap | txsend => simp [encode, decode, decodeWord, formatN]
  | rdreg => simp [encode, decode, decodeWord, formatA]
  | stclr | crcb | rxpush => simp [encode, decode, decodeWord, formatB]
  | chset | pldset => simp [encode, decode, decodeWord, formatAB]
  | _ => cases hi

/-! ### Frames (R79, R85) -/

/-- A frame decodes by its type byte alone, to the packet type with the rest of the frame (R200). -/
theorem decodeFrame_bytes_of_known {t : Byte} {p : Config.PacketType} (hp : packetOfTag t = some p) (f : Frame) :
    decodeFrame (f.bytes t) = .ok (packetInstr p f) := by
  obtain ⟨sync, len, payload, crc⟩ := f
  rw [Frame.bytes_eq]
  cases payload <;> simp [decodeFrame, hp, List.dropLast_cons_of_ne_nil]

theorem decodeFrame_bytes_of_unknown {t : Byte} (ht : packetOfTag t = none) (f : Frame) :
    decodeFrame (f.bytes t) = .error (.unknownType t) := by
  obtain ⟨sync, len, payload, crc⟩ := f
  rw [Frame.bytes_eq]
  cases payload <;> simp [decodeFrame, ht]

/-- Four bytes or more are a frame; fewer decode to nothing (R80). -/
theorem exists_frame_bytes_of_decodeFrame {F : List Byte} {i : Instr} (h : decodeFrame F = .ok i) :
    ∃ t f, F = Frame.bytes t f := by
  match F, h with
  | sync :: len :: t :: b :: rest, _ =>
    refine ⟨t, ⟨sync, len, (b :: rest).dropLast, (b :: rest).getLast (by simp)⟩, ?_⟩
    rw [Frame.bytes_eq, List.dropLast_append_getLast]

theorem encode_of_decodeFrame {F : List Byte} {i : Instr} (h : decodeFrame F = .ok i) : encode i = .frame F := by
  obtain ⟨t, f, rfl⟩ := exists_frame_bytes_of_decodeFrame h
  cases hp : packetOfTag t with
  | some p =>
    obtain rfl : packetInstr p f = i := Except.ok.inj ((decodeFrame_bytes_of_known hp f).symm.trans h)
    rw [encode_packetInstr, packetTag_of_packetOfTag hp]
  | none => cases (decodeFrame_bytes_of_unknown hp f).symm.trans h

theorem decode_encode_of_packet (p : Config.PacketType) (f : Frame) :
    decode (encode (packetInstr p f)) = .ok (packetInstr p f) := by
  rw [encode_packetInstr]
  exact decodeFrame_bytes_of_known (packetOfTag_packetTag p) f

/-! ### Decoding and encoding are inverse -/

theorem decode_encode (i : Instr) : decode (encode i) = .ok i := by
  cases hi : packetOf i with
  | none => exact decode_encode_of_command hi
  | some pf => rw [packetInstr_of_packetOf hi]; exact decode_encode_of_packet pf.1 pf.2

theorem encode_of_decode {e : Encoded} {i : Instr} (h : decode e = .ok i) : encode i = e := by
  cases e with
  | word w => exact encode_of_decodeWord h
  | frame F => exact encode_of_decodeFrame h

/-- The decoder accepts exactly the encodings. -/
theorem decode_eq_ok_iff {e : Encoded} {i : Instr} : decode e = .ok i ↔ encode i = e :=
  ⟨encode_of_decode, fun h => h ▸ decode_encode i⟩

/-! ### The opcode table (R72, R74) -/

/-- A row made of fields covers the words whose fields agree with it under its mask. -/
theorem fields_of_covers {m : String} {v mo ma mb : Byte} {w : CmdWord}
    (h : (OpcodeRow.mk m (mkWord v 0#8 0#8) (mkWord mo ma mb)).covers w = true) :
    opField w &&& mo = v ∧ aField w &&& ma = 0#8 ∧ bField w &&& mb = 0#8 := by
  have hw : mkWord (opField w &&& mo) (aField w &&& ma) (bField w &&& mb) = mkWord v 0#8 0#8 := by
    rw [← mkWord_and, mkWord_fields]
    exact eq_of_beq h
  exact ⟨by simpa using congrArg opField hw, by simpa using congrArg aField hw, by simpa using congrArg bField hw⟩

/-! A row of each format covers its command's encodings alone (R71). -/

theorem encode_of_coversN {i : Instr} {m : String} {op : Byte} {w : CmdWord}
    (hi : encode i = .word (mkWord op 0#8 0#8))
    (h : (OpcodeRow.mk m (mkWord op 0#8 0#8) (mkWord 0xFF#8 0xFF#8 0xFF#8)).covers w = true) : encode i = .word w := by
  obtain ⟨hop, ha, hb⟩ := fields_of_covers h
  exact encode_eq_word_of_fields hi (BitVec.and_allOnes.symm.trans hop) (BitVec.and_allOnes.symm.trans ha)
    (BitVec.and_allOnes.symm.trans hb)

theorem encode_of_coversB {k : Byte → Instr} {m : String} {op : Byte} {w : CmdWord}
    (hk : ∀ b, encode (k b) = .word (mkWord op 0#8 b))
    (h : (OpcodeRow.mk m (mkWord op 0#8 0#8) (mkWord 0xFF#8 0xFF#8 0x00#8)).covers w = true) :
    encode (k (bField w)) = .word w := by
  obtain ⟨hop, ha, -⟩ := fields_of_covers h
  exact encode_eq_word_of_fields (hk _) (BitVec.and_allOnes.symm.trans hop) (BitVec.and_allOnes.symm.trans ha) rfl

theorem encode_of_coversA {k : Byte → Instr} {m : String} {op : Byte} {w : CmdWord}
    (hk : ∀ a, encode (k a) = .word (mkWord op a 0#8))
    (h : (OpcodeRow.mk m (mkWord op 0#8 0#8) (mkWord 0xFF#8 0x00#8 0xFF#8)).covers w = true) :
    encode (k (aField w)) = .word w := by
  obtain ⟨hop, -, hb⟩ := fields_of_covers h
  exact encode_eq_word_of_fields (hk _) (BitVec.and_allOnes.symm.trans hop) rfl (BitVec.and_allOnes.symm.trans hb)

theorem encode_of_coversAB {k : Byte → Byte → Instr} {m : String} {op : Byte} {w : CmdWord}
    (hk : ∀ a b, encode (k a b) = .word (mkWord op a b))
    (h : (OpcodeRow.mk m (mkWord op 0#8 0#8) (mkWord 0xFF#8 0x00#8 0x00#8)).covers w = true) :
    encode (k (aField w) (bField w)) = .word w := by
  obtain ⟨hop, -, -⟩ := fields_of_covers h
  exact encode_eq_word_of_fields (hk _ _) (BitVec.and_allOnes.symm.trans hop) rfl rfl

/-- Every word a row covers is the encoding of a command with the row's mnemonic. -/
theorem exists_encode_of_covers {r : OpcodeRow} {w : CmdWord} (hr : r ∈ opcodeTable) (h : r.covers w = true) :
    ∃ i, encode i = .word w ∧ mnemonicOf i = r.mnemonic := by
  simp only [opcodeTable, List.cons_append, List.nil_append, List.mem_cons, List.not_mem_nil, or_false] at hr
  obtain rfl | rfl | rfl | rfl | rfl | rfl | rfl | rfl | rfl | rfl | rfl | rfl | rfl := hr
  · exact ⟨.nop, encode_of_coversN rfl h, rfl⟩
  · exact ⟨.rdreg (aField w), encode_of_coversA (k := .rdreg) (fun _ => rfl) h, rfl⟩
  · exact ⟨.stclr (bField w), encode_of_coversB (k := .stclr) (fun _ => rfl) h, rfl⟩
  · exact ⟨.srst, encode_of_coversN rfl h, rfl⟩
  · exact ⟨.crcclr, encode_of_coversN rfl h, rfl⟩
  · exact ⟨.crcb (bField w), encode_of_coversB (k := .crcb) (fun _ => rfl) h, rfl⟩
  · exact ⟨.rxpush (bField w), encode_of_coversB (k := .rxpush) (fun _ => rfl) h, rfl⟩
  · exact ⟨.rxeval, encode_of_coversN rfl h, rfl⟩
  · exact ⟨.chset (aField w) (bField w), encode_of_coversAB (k := .chset) (fun _ _ => rfl) h, rfl⟩
  · exact ⟨.txpack, encode_of_coversN rfl h, rfl⟩
  · exact ⟨.pldset (aField w) (bField w), encode_of_coversAB (k := .pldset) (fun _ _ => rfl) h, rfl⟩
  · exact ⟨.txwrap, encode_of_coversN rfl h, rfl⟩
  · exact ⟨.txsend, encode_of_coversN rfl h, rfl⟩

/-- The encoding of every command is a word that a row covers. -/
theorem exists_covers_of_encode {i : Instr} {w : CmdWord} (h : encode i = .word w) :
    ∃ r ∈ opcodeTable, r.covers w = true := by
  have hrow : Laws.TableRow.Statement i := by
    cases i with
    | nop => exact Laws.TableRow.nop
    | rdreg a => exact Laws.TableRow.rdreg a
    | stclr b => exact Laws.TableRow.stclr b
    | srst => exact Laws.TableRow.srst
    | crcclr => exact Laws.TableRow.crcclr
    | crcb b => exact Laws.TableRow.crcb b
    | rxpush b => exact Laws.TableRow.rxpush b
    | rxeval => exact Laws.TableRow.rxeval
    | chset a b => exact Laws.TableRow.chset a b
    | txpack => exact Laws.TableRow.txpack
    | pldset a b => exact Laws.TableRow.pldset a b
    | txwrap => exact Laws.TableRow.txwrap
    | txsend => exact Laws.TableRow.txsend
    | _ => cases h
  obtain ⟨r, hr, hcov, -⟩ := hrow.1 w h
  exact ⟨r, hr, hcov⟩

/-! ### The response of an instruction (R75) -/

/-- A command's one response: OK with the register's value for a successful RDREG, data 0x00 for every other. -/
theorem Machine.Effect.resp_of_command {i : Instr} {s t : State} (h : Effect i s t) (hi : packetOf i = none) :
    (∃ a v, i = .rdreg a ∧ readRegister a s = some v ∧ t.resp = s.resp ++ [respWord .ok v]) ∨
    ((∀ a v, i = .rdreg a → readRegister a s ≠ some v) ∧ ∃ rc, t.resp = s.resp ++ [respWord rc 0x00#8]) := by
  cases h with
  | rdreg h => exact .inl ⟨_, _, rfl, h, rfl⟩
  | rdregReserved h =>
    refine .inr ⟨?_, .eOperand, rfl⟩
    rintro a v ⟨⟩
    simp [h]
  | rxeval => exact .inr ⟨nofun, .ok, by simp⟩
  | delivered hi' | tooShort hi' | consumed hi' => cases hi'.symm.trans hi
  | _ => exact .inr ⟨nofun, _, rfl⟩

theorem Machine.Effect.resp_of_packet {i : Instr} {s t : State} (h : Effect i s t) (hi : packetOf i ≠ none) :
    t.resp = s.resp := by
  cases h with
  | delivered | tooShort | consumed => rfl
  | _ => exact absurd rfl hi

/-! ### The obligations of `30_encoding.md` -/

/-- Settles O1: a command's fields and a frame's bytes are read back as they were written. -/
theorem decodeOfEncodeIsTheInstruction : Obligations.DecodeOfEncodeIsTheInstruction :=
  decode_encode

/-- Settles O2: each word that decodes has the fields its command's format writes, and each frame the bytes of its
packet type. -/
theorem encodeOfDecodeIsTheInput : Obligations.EncodeOfDecodeIsTheInput :=
  fun _ _ => encode_of_decode

/-- Settles O3: the words that decode are the encodings of the commands, and so are the words a row covers, each with
the mnemonic of its row. -/
theorem wordsDecodeAsTheTableSays : Obligations.WordsDecodeAsTheTableSays := by
  unfold Obligations.WordsDecodeAsTheTableSays
  refine fun w => ⟨⟨?_, ?_⟩, ?_⟩
  · rintro ⟨i, hi⟩
    exact exists_covers_of_encode (encode_of_decode hi)
  · rintro ⟨r, hr, hcov⟩
    obtain ⟨i, hi, -⟩ := exists_encode_of_covers hr hcov
    exact ⟨i, decode_eq_ok_iff.mpr hi⟩
  · intro i r hi hr hcov
    obtain ⟨j, hj, hmn⟩ := exists_encode_of_covers hr hcov
    have hij : i = j := Except.ok.inj (hi.symm.trans (decode_eq_ok_iff.mpr hj))
    rw [hij, hmn]

/-- Settles O40: the effects of a command append one response, those of a packet type none. -/
theorem everyCommandAnswersOneResponse : Obligations.EveryCommandAnswersOneResponse := by
  unfold Obligations.EveryCommandAnswersOneResponse
  refine ⟨fun i s hi => ?_, fun i s hi => ?_⟩
  · obtain ⟨t, ht⟩ := exists_effect i s
    obtain ⟨a, v, rfl, hread, hresp⟩ | ⟨hnot, rc, hresp⟩ := ht.resp_of_command hi
    · refine ⟨t, .ok, v, ht.exec_eq, hresp, ?_, .inl ⟨a, v, rfl, hread⟩⟩
      rintro a' v' ⟨⟩ hread'
      exact ⟨rfl, Option.some.inj (hread.symm.trans hread')⟩
    · exact ⟨t, rc, 0x00#8, ht.exec_eq, hresp, fun a v ha hread => absurd hread (hnot a v ha), .inr rfl⟩
  · obtain ⟨t, ht⟩ := exists_effect i s
    exact ⟨t, ht.exec_eq, ht.resp_of_packet hi⟩

/-- Settles O4: each word and frame is the encoding of the instruction it is said to stand for. -/
theorem specWordsDecodeAsWritten : Obligations.SpecWordsDecodeAsWritten := by
  unfold Obligations.SpecWordsDecodeAsWritten
  simp only [decode_eq_ok_iff]
  exact ⟨rfl, rfl, rfl, rfl, rfl, rfl, rfl, rfl, rfl, rfl⟩

end Sys2Proof
end

section
/-! Proofs about the CRC engine (`40_crc.md`): one iteration bit by bit, the laws of the byte step and of `crc8`, and
the two commands of the CRC port. -/

namespace Sys2Proof.Machine

/-! ### One iteration (R100, R102) -/

/-- An iteration shifts, and feeds bit 7 back where CRC_POLY has a bit set. -/
theorem crcIter_eq (x : Byte) : crcIter x = x <<< 1 ^^^ bif x.getLsbD 7 then Config.crcPoly else 0#8 := by
  cases h : x.getLsbD 7 with
  | true => exact if_pos h
  | false => exact (if_neg (by rw [h]; decide)).trans BitVec.xor_zero.symm

theorem crcIter_getLsbD_zero (x : Byte) : (crcIter x).getLsbD 0 = x.getLsbD 7 := by
  rw [crcIter_eq, BitVec.getLsbD_xor, BitVec.getLsbD_shiftLeft]
  cases x.getLsbD 7 <;> rfl

theorem crcIter_getLsbD_succ (x : Byte) {k : Nat} (hk : k + 1 < 8) :
    (crcIter x).getLsbD (k + 1) = (x.getLsbD k ^^ (x.getLsbD 7 && Config.crcPoly.getLsbD (k + 1))) := by
  have hshift : (x <<< 1).getLsbD (k + 1) = x.getLsbD k := by
    rw [BitVec.getLsbD_shiftLeft, decide_eq_true hk]
    rfl
  rw [crcIter_eq, BitVec.getLsbD_xor, hshift]
  cases x.getLsbD 7 <;> simp

/-- Settles O15: bit 0 is the feedback, and each other bit takes it where CRC_POLY, 1101 0101 in binary, has a one. -/
theorem crcIterationPerBit : Obligations.CrcIterationPerBit := by
  unfold Obligations.CrcIterationPerBit
  intro x
  refine ⟨crcIter_getLsbD_zero x, ?_, ?_, ?_, ?_, ?_, ?_, ?_⟩ <;>
    rw [crcIter_getLsbD_succ x (by decide)] <;> simp [Config.crcPoly]

/-- An iteration loses nothing: bit 0 after it is the bit shifted out, and with that the feedback can be undone. -/
theorem crcIter_injective : Function.Injective crcIter := by
  intro x y hxy
  have h7 : x.getLsbD 7 = y.getLsbD 7 := by rw [← crcIter_getLsbD_zero x, hxy, crcIter_getLsbD_zero y]
  refine BitVec.eq_of_getLsbD_eq fun i hi => ?_
  obtain rfl | hi' : i = 7 ∨ i + 1 < 8 := by omega
  · exact h7
  · have hbit := crcIter_getLsbD_succ x hi'
    rw [hxy, crcIter_getLsbD_succ y hi', h7] at hbit
    exact (Bool.xor_left_inj.mp hbit).symm

theorem crcIters_injective (n : Nat) : Function.Injective (crcIters n) := by
  induction n with
  | zero => exact Function.injective_id
  | succ n ih => exact ih.comp crcIter_injective

/-! ### One byte (R100, R103) -/

theorem crcStep_bijective (d : Byte) : Function.Bijective fun acc => crcStep acc d :=
  Finite.injective_iff_bijective.mp fun _ _ h => (BitVec.xor_left_inj d).mp (crcIters_injective 8 h)

/-- Only a byte equal to the accumulator takes it to zero. -/
theorem crcStep_eq_zero_iff {a d : Byte} : crcStep a d = 0#8 ↔ a = d :=
  ⟨fun h => (crcStep_bijective d).injective (h.trans (crcStep_self d).symm), fun h => h ▸ crcStep_self a⟩

/-! ### A sequence of bytes (R101, R103) -/

theorem crc8_zero_cons (s : List Byte) : crc8 (0#8 :: s) = crc8 s :=
  congrArg (s.foldl crcStep) crcStep_zero

theorem crc8_concat (s : List Byte) (c : Byte) : crc8 (s ++ [c]) = crcStep (crc8 s) c :=
  crc8_append s [c]

theorem crc8_replicate_zero_append (n : Nat) (s : List Byte) : crc8 (List.replicate n 0#8 ++ s) = crc8 s := by
  induction n with
  | zero => rfl
  | succ n ih => rw [List.replicate_succ, List.cons_append, crc8_zero_cons, ih]

/-- Stepping through two sequences at once is linear in the accumulators and the bytes together. -/
theorem foldl_crcStep_zipWith_xor (a b : Byte) {s t : List Byte} (h : s.length = t.length) :
    (List.zipWith (· ^^^ ·) s t).foldl crcStep (a ^^^ b) = s.foldl crcStep a ^^^ t.foldl crcStep b := by
  induction s generalizing t a b with
  | nil =>
    obtain rfl := List.eq_nil_of_length_eq_zero h.symm
    rfl
  | cons d s ih =>
    obtain ⟨e, t, rfl⟩ := List.exists_cons_of_length_eq_add_one h.symm
    rw [List.zipWith_cons_cons, List.foldl_cons, crcStep_xor]
    exact ih _ _ (Nat.succ.inj h)

theorem crc8_zipWith_xor {s t : List Byte} (h : s.length = t.length) :
    crc8 (List.zipWith (· ^^^ ·) s t) = crc8 s ^^^ crc8 t :=
  foldl_crcStep_zipWith_xor Config.crcInit Config.crcInit h

/-- A sequence with a byte after it has residue zero exactly when the byte is the sequence's CRC. -/
theorem crc8_concat_eq_zero_iff {s : List Byte} {c : Byte} : crc8 (s ++ [c]) = 0#8 ↔ crc8 s = c := by
  rw [crc8_concat, crcStep_eq_zero_iff]

/-- The check of a candidate frame compares its last byte with the CRC of the bytes from the type byte up to it
(R132). -/
theorem validateFrame_concat (G : List Byte) (c : Byte) :
    validateFrame (G ++ [c]) = true ↔ crc8 (G.drop 2) = c := by
  simp [validateFrame, crcCovered]

theorem validateFrame_iff_residue {F : List Byte} (hF : 4 ≤ F.length) :
    validateFrame F = true ↔ crc8 (F.drop 2) = 0#8 := by
  obtain rfl | ⟨G, c, rfl⟩ := F.eq_nil_or_concat'
  · simp at hF
  · rw [List.length_append, List.length_singleton] at hF
    rw [validateFrame_concat, List.drop_append_of_le_length (by omega), crc8_concat_eq_zero_iff]

/-- Settles O16: the laws of the sequence follow from those of the byte step; the two sequences of the last law are
evaluated. -/
theorem crcLaws : Obligations.CrcLaws := by
  unfold Obligations.CrcLaws
  exact ⟨crc8_nil, crc8_replicate_zero_append, crcStep_bijective, fun _ _ => crc8_zipWith_xor,
    fun _ => crc8_concat_eq_zero_iff.mpr rfl, fun _ => validateFrame_iff_residue,
    by decide +kernel, by decide +kernel⟩

/-! ### The commands (R104, R105) -/

theorem wordsN_crcclr : wordsN 0x10#8 .crcclr := by
  intro w hop
  simp [decode, decodeWord, hop, formatN]

theorem wordsB_crcb : wordsB 0x11#8 .crcb := by
  intro w hop
  simp [decode, decodeWord, hop, formatB]

theorem exec_crcclr (s : State) :
    exec .crcclr s = .next { s with crcAcc := 0x00#8, resp := s.resp ++ [0x0000#16] } := rfl

theorem exec_crcb (b : Byte) (s : State) :
    exec (.crcb b) s = .next { s with crcAcc := crcStep s.crcAcc b, resp := s.resp ++ [0x0000#16] } := rfl

/-- Settles O13: the word is of format N, and the command writes the accumulator and answers. -/
theorem crcclrClearsTheAccumulator : Obligations.CrcclrClearsTheAccumulator :=
  ⟨wordsN_crcclr, exec_crcclr⟩

theorem execAll_cons_of_next {i : Instr} {s t : State} (h : exec i s = .next t) (is : List Instr) :
    execAll (i :: is) s = execAll is t := by
  simp only [execAll, h]

/-- CRCB of every byte of a sequence takes the accumulator through the sequence, with one response OK for each. -/
theorem execAll_crcb (bs : List Byte) (s : State) : execAll (bs.map .crcb) s =
    .next { s with crcAcc := bs.foldl crcStep s.crcAcc, resp := s.resp ++ List.replicate bs.length 0x0000#16 } := by
  induction bs generalizing s with
  | nil => simp [execAll]
  | cons b bs ih =>
    rw [List.map_cons, execAll_cons_of_next (exec_crcb b s), ih]
    simp [List.replicate_succ]

/-- Settles O14: after CRCCLR the accumulator starts at CRC_INIT, from which CRCB of every byte takes it to `crc8`. -/
theorem crcbStepsTheAccumulator : Obligations.CrcbStepsTheAccumulator := by
  unfold Obligations.CrcbStepsTheAccumulator
  refine ⟨wordsB_crcb, exec_crcb, fun bs s => ?_, by decide, by decide⟩
  rw [execAll_cons_of_next (exec_crcclr s), execAll_crcb]
  simp [List.replicate_succ, crc8, Config.crcInit]

end Sys2Proof.Machine
end

section
/-! Proofs about the synchronizer and validator (`41_framer.md`): the transition a buffer calls for, the loop run to its
end with equations for its transitions and an induction along them, the frames a buffer begins with, and bursts. -/

namespace Sys2Proof.Machine

/-! ### The transition a buffer calls for (R124 to R128, R130) -/

/-- Bytes that arrive later do not change the length the second byte tells. -/
theorem expectedLen_append {m : List Byte} (hm : 2 ≤ m.length) (g : List Byte) :
    expectedLen (m ++ g) = expectedLen m :=
  congrArg (fun b : Byte => b.toNat + 2) (List.getD_append m g 0#8 1 hm)

/-- The loop's exit condition is the state of rest (R134). -/
theorem syncTransition_eq_accumulating_iff {m : List Byte} : syncTransition m = .accumulating ↔ atRest m := by
  obtain ⟨hm, h⟩ | ⟨hm, hlong, h⟩ | ⟨hm, hshort, h⟩ | ⟨hm, hmin, hmax, hwait, h⟩ | ⟨hm, hmin, hmax, hheld, h⟩ :=
    syncTransition_cases m
  · exact iff_of_true h (.inl hm)
  · exact iff_of_false (h ▸ nofun) (by omega)
  · exact iff_of_false (h ▸ nofun) (by omega)
  · exact iff_of_true h (.inr ⟨hm, hwait, hmin, hmax⟩)
  · exact iff_of_false (h ▸ nofun) (by omega)

theorem syncTransition_of_tooLong {m : List Byte} (hm : 2 < m.length) (hlong : Config.maxFrame < expectedLen m) :
    syncTransition m = .corrupt .toolong :=
  (if_neg (Nat.not_le.mpr hm)).trans (if_pos hlong)

theorem syncTransition_of_tooShort {m : List Byte} (hm : 2 < m.length) (hshort : expectedLen m < Config.minFrame) :
    syncTransition m = .corrupt .tooshort := by
  have hmax : ¬ Config.maxFrame < expectedLen m := Nat.not_lt.mpr (hshort.le.trans (by decide))
  exact (if_neg (Nat.not_le.mpr hm)).trans ((if_neg hmax).trans (if_pos hshort))

theorem syncTransition_of_complete {m : List Byte} (hmin : Config.minFrame ≤ expectedLen m)
    (hmax : expectedLen m ≤ Config.maxFrame) (hheld : expectedLen m ≤ m.length) :
    syncTransition m = .frameReady (m.take (expectedLen m)) (m.drop (expectedLen m)) := by
  have hm : ¬ m.length ≤ 2 := by simp only [Config.minFrame] at hmin; omega
  exact (if_neg hm).trans <| (if_neg (Nat.not_lt.mpr hmax)).trans <| (if_neg (Nat.not_lt.mpr hmin)).trans <|
    if_neg (Nat.not_lt.mpr hheld)

theorem atRest_nil : atRest [] := .inl (Nat.zero_le 2)

/-- At rest the buffer holds less than the longest frame (R134, R137). -/
theorem length_le_of_atRest {m : List Byte} (h : atRest m) : m.length ≤ 63 := by
  simp only [atRest, Config.maxFrame] at h
  omega

/-- Taking a candidate off removes four bytes or more (R134). -/
theorem length_of_frameReady {m F rest : List Byte} (h : syncTransition m = .frameReady F rest) :
    rest.length + 4 ≤ m.length := by
  obtain ⟨hmin, -, -, rfl⟩ := frameReady_spec h
  rw [List.length_append, Nat.add_comm]
  exact Nat.add_le_add_right hmin _

/-! ### A valid frame at the front of the buffer -/

theorem expectedLen_append_of_validFrame {F : List Byte} (hF : validFrame F) (g : List Byte) :
    expectedLen (F ++ g) = F.length := by
  obtain ⟨hmin, -, hlen, -⟩ := hF
  rw [expectedLen_append (le_trans (by decide) hmin), hlen, expectedLen]

theorem syncTransition_append_of_validFrame {F : List Byte} (hF : validFrame F) (g : List Byte) :
    syncTransition (F ++ g) = .frameReady F g := by
  have he := expectedLen_append_of_validFrame hF g
  obtain ⟨hmin, hmax, -⟩ := hF
  have h := syncTransition_of_complete (m := F ++ g) (hmin.trans_eq he.symm) (he.trans_le hmax) (by simp [he])
  rwa [he, List.take_left, List.drop_left] at h

/-- The synchronizer waits for the rest of a frame it has begun (R127, R128). -/
theorem atRest_of_prefix_of_validFrame {m F : List Byte} (hF : validFrame F) (hpre : m <+: F)
    (hlt : m.length < F.length) : atRest m := by
  obtain hm | hm := Nat.lt_or_ge 2 m.length
  · obtain ⟨x, rfl⟩ := hpre
    have he : expectedLen m = (m ++ x).length := by
      rw [← expectedLen_append hm.le x, ← expectedLen_append_of_validFrame hF [], List.append_nil]
    obtain ⟨hmin, hmax, -⟩ := hF
    exact .inr ⟨hm, hlt.trans_eq he.symm, hmin.trans_eq he.symm, he.trans_le hmax⟩
  · exact .inl hm

/-! ### Reporting a candidate (R131, R133) -/

theorem reportFrame_of_valid {F : List Byte} (hF : validateFrame F = true) (s : State) :
    reportFrame F s = { s with fro := s.fro ++ [okRecord F],
                               tlmIn := if s.params.hasTlmx then s.tlmIn ++ [F] else s.tlmIn } :=
  (reportFrame_eq F s).trans (if_pos hF)

theorem reportFrame_of_invalid {F : List Byte} (hF : validateFrame F = false) (s : State) :
    reportFrame F s = { s with fro := s.fro ++ [errRecord F], status := withFlag .crcerr s.status } :=
  (reportFrame_eq F s).trans (if_neg (Bool.eq_false_iff.mp hF))

/-- What the annex unit receives of some records: the frames of those that are FRAME_OK, where the unit is present
(R133, R200). -/
def forwarded (p : Config.Params) (rs : List FroRecord) : List (List Byte) :=
  if p.hasTlmx then (rs.filter fun r => r.kind == .frameOk).map FroRecord.bytes else []

@[simp] theorem forwarded_nil (p : Config.Params) : forwarded p [] = [] := by
  simp [forwarded]

theorem forwarded_append (p : Config.Params) (rs rs' : List FroRecord) :
    forwarded p (rs ++ rs') = forwarded p rs ++ forwarded p rs' := by
  unfold forwarded
  split <;> simp

theorem reportFrame_forwards (F : List Byte) (s : State) : ∃ r, (reportFrame F s).fro = s.fro ++ [r] ∧
    (reportFrame F s).tlmIn = s.tlmIn ++ forwarded s.params [r] := by
  cases hF : validateFrame F with
  | true =>
    rw [reportFrame_of_valid hF]
    refine ⟨okRecord F, rfl, ?_⟩
    cases hx : s.params.hasTlmx <;> simp [forwarded, hx]
  | false =>
    rw [reportFrame_of_invalid hF]
    exact ⟨errRecord F, rfl, by simp [forwarded]⟩

/-! ### The loop run to its end (R125, R134) -/

/-- Iterations done in two runs are iterations done in one. -/
theorem rxLoop_add (n k : Nat) (s : State) : rxLoop (n + k) s = rxLoop k (rxLoop n s) := by
  induction n generalizing s with
  | zero => rw [Nat.zero_add]; rfl
  | succ n ih =>
    rw [Nat.succ_add, rxLoop_succ, rxLoop_succ]
    split
    · next h => exact (rxLoop_accumulating k h).symm
    · exact ih _
    · exact ih _

/-- One iteration for every four bytes and one more bring the loop to its exit condition: a candidate takes four bytes
at least, and a clear leaves none. -/
theorem atRest_rxLoop {n : Nat} {s : State} (h : s.rxbuf.length / 4 < n) : atRest (rxLoop n s).rxbuf := by
  induction n generalizing s with
  | zero => exact absurd h (Nat.not_lt_zero _)
  | succ n ih =>
    rw [rxLoop_succ]
    split
    · next hwait => exact syncTransition_eq_accumulating_iff.mp hwait
    · rw [rxLoop_accumulating n rfl]
      exact atRest_nil
    · next F rest hready =>
      have := length_of_frameReady hready
      refine ih ?_
      rw [reportFrame_rxbuf, State.setRxbuf_rxbuf]
      omega

/-- RXEVAL without its response. -/
def rxEval (s : State) : State := rxLoop (rxIterations s) s

theorem exec_rxeval (s : State) : exec .rxeval s = .next (respond .ok 0x00#8 (rxEval s)) := rfl

theorem atRest_rxEval (s : State) : atRest (rxEval s).rxbuf := atRest_rxLoop (Nat.lt_add_of_pos_right (by decide))

theorem rxLoop_of_atRest (n : Nat) {s : State} (h : atRest s.rxbuf) : rxLoop n s = s :=
  rxLoop_accumulating n (syncTransition_eq_accumulating_iff.mpr h)

/-- Fuel beyond the bound changes nothing. -/
theorem rxLoop_eq_rxEval {n : Nat} {s : State} (h : s.rxbuf.length / 4 < n) : rxLoop n s = rxEval s :=
  calc rxLoop n s
      = rxLoop (rxIterations s) (rxLoop n s) := (rxLoop_of_atRest _ (atRest_rxLoop h)).symm
    _ = rxLoop n (rxLoop (rxIterations s) s) := by rw [← rxLoop_add, Nat.add_comm, rxLoop_add]
    _ = rxEval s := rxLoop_of_atRest n (atRest_rxEval s)

theorem rxEval_of_atRest {s : State} (h : atRest s.rxbuf) : rxEval s = s := rxLoop_of_atRest _ h

theorem rxEval_of_corrupt {s : State} {f : Flag} (h : syncTransition s.rxbuf = .corrupt f) :
    rxEval s = (s.setFlag f).setRxbuf [] := by
  rw [rxEval, rxIterations, rxLoop_succ, h]
  exact rxLoop_of_atRest _ atRest_nil

theorem rxEval_of_frameReady {s : State} {F rest : List Byte} (h : syncTransition s.rxbuf = .frameReady F rest) :
    rxEval s = rxEval (reportFrame F (s.setRxbuf rest)) := by
  have hlen := length_of_frameReady h
  rw [rxEval, rxIterations, rxLoop_succ, h]
  refine rxLoop_eq_rxEval ?_
  rw [reportFrame_rxbuf, State.setRxbuf_rxbuf, State.rxLen]
  omega

/-- An induction along RXEVAL, from its last transition back to its first. -/
theorem rxEval_induction {P : State → State → Prop} (hrest : ∀ s, atRest s.rxbuf → P s s)
    (hcorrupt : ∀ s f, syncTransition s.rxbuf = .corrupt f → P s ((s.setFlag f).setRxbuf []))
    (hready : ∀ s F rest t, syncTransition s.rxbuf = .frameReady F rest → P (reportFrame F (s.setRxbuf rest)) t → P s t)
    (s : State) : P s (rxEval s) := by
  cases h : syncTransition s.rxbuf with
  | accumulating =>
    have hs := syncTransition_eq_accumulating_iff.mp h
    rw [rxEval_of_atRest hs]
    exact hrest s hs
  | corrupt f =>
    rw [rxEval_of_corrupt h]
    exact hcorrupt s f h
  | frameReady F rest =>
    rw [rxEval_of_frameReady h]
    exact hready s F rest _ h (rxEval_induction hrest hcorrupt hready _)
termination_by s.rxbuf.length
decreasing_by
  have := length_of_frameReady h
  rw [reportFrame_rxbuf, State.setRxbuf_rxbuf]
  omega

/-- RXEVAL emits a record for each candidate, and forwards the frames of the FRAME_OK ones (R131, R133, R134). -/
theorem rxEval_records (s : State) : ∃ rs, (rxEval s).fro = s.fro ++ rs ∧ 4 * rs.length ≤ s.rxbuf.length ∧
    (rxEval s).tlmIn = s.tlmIn ++ forwarded s.params rs := by
  refine rxEval_induction (P := fun s t => ∃ rs, t.fro = s.fro ++ rs ∧ 4 * rs.length ≤ s.rxbuf.length ∧
    t.tlmIn = s.tlmIn ++ forwarded s.params rs) ?_ ?_ ?_ s
  · exact fun s _ => ⟨[], by simp⟩
  · exact fun s f _ => ⟨[], by simp⟩
  · rintro s F rest t h ⟨rs, hfro, hlen, htlm⟩
    have := length_of_frameReady h
    obtain ⟨r, hr, hfwd⟩ := reportFrame_forwards F (s.setRxbuf rest)
    rw [reportFrame_rxbuf, State.setRxbuf_rxbuf] at hlen
    refine ⟨[r] ++ rs, ?_, ?_, ?_⟩
    · rw [hfro, hr, List.append_assoc]; rfl
    · rw [List.length_append, List.length_singleton]; omega
    · rw [htlm, hfwd, forwarded_append, reportFrame_params, List.append_assoc]; rfl

/-- RXEVAL takes a valid frame off the front, reports it, and goes on with the rest (R130, R133). -/
theorem rxEval_of_validFrame {s : State} {F g : List Byte} (hF : validFrame F) (hs : s.rxbuf = F ++ g) :
    ∃ u, rxEval s = rxEval u ∧ u.rxbuf = g ∧ u.fro = s.fro ++ [okRecord F] ∧ u.status = s.status := by
  have hready := rxEval_of_frameReady (hs ▸ syncTransition_append_of_validFrame hF g)
  obtain ⟨-, -, -, hcrc⟩ := hF
  rw [reportFrame_of_valid hcrc] at hready
  exact ⟨_, hready, rfl, rfl, rfl⟩

/-! ### The obligations about RXEVAL -/

/-- Settles O19: both cases are states of rest. -/
theorem rxevalWaitsForMoreBytes : Obligations.RxevalWaitsForMoreBytes := by
  unfold Obligations.RxevalWaitsForMoreBytes
  refine ⟨fun s hm => ?_, fun s hm hmin hmax hwait => ?_⟩
  · rw [exec_rxeval, rxEval_of_atRest (.inl hm)]; rfl
  · rw [exec_rxeval, rxEval_of_atRest (.inr ⟨hm, hwait, hmin, hmax⟩)]; rfl

/-- Settles O20: a length byte of 63 or more tells a length above 64, and one of 0 or 1 a length below 4. -/
theorem rxevalClearsOnAnImpossibleLength : Obligations.RxevalClearsOnAnImpossibleLength := by
  unfold Obligations.RxevalClearsOnAnImpossibleLength
  refine ⟨fun s hm hb => ?_, fun s hm hb => ?_⟩
  · have hlong : Config.maxFrame < expectedLen s.rxbuf := Nat.add_le_add_right hb 2
    rw [exec_rxeval, rxEval_of_corrupt (syncTransition_of_tooLong hm hlong)]; rfl
  · have hshort : expectedLen s.rxbuf < Config.minFrame := Nat.lt_succ_of_le (Nat.add_le_add_right hb 2)
    rw [exec_rxeval, rxEval_of_corrupt (syncTransition_of_tooShort hm hshort)]; rfl

/-- Settles O21: the first transition takes the candidate off and reports it, and RXEVAL of what is left is the rest of
the loop. -/
theorem rxevalReportsTheFrontCandidate : Obligations.RxevalReportsTheFrontCandidate := by
  unfold Obligations.RxevalReportsTheFrontCandidate
  intro s L _ hL hmin hmax hheld
  obtain rfl : L = expectedLen s.rxbuf := hL
  have hready := rxEval_of_frameReady (syncTransition_of_complete hmin hmax hheld)
  refine ⟨fun hv => ?_, fun hv => ?_⟩
  · rw [exec_rxeval, hready, reportFrame_of_valid hv]; rfl
  · rw [exec_rxeval, hready, reportFrame_of_invalid hv]; rfl

/-- Settles O22: the loop comes to rest within its fuel, and each record has taken four bytes. -/
theorem rxevalEndsAtRestWithinItsBounds : Obligations.RxevalEndsAtRestWithinItsBounds := by
  unfold Obligations.RxevalEndsAtRestWithinItsBounds
  intro s
  obtain ⟨rs, hfro, hlen, -⟩ := rxEval_records s
  exact ⟨_, rs, exec_rxeval s, hfro, by omega, atRest_rxEval s, length_le_of_atRest (atRest_rxEval s),
    fun n hn => rxLoop_eq_rxEval (by omega)⟩

theorem atRest_of_exec_rxeval {s t : State} (h : exec .rxeval s = .next t) : atRest t.rxbuf := by
  cases h
  exact atRest_rxEval s

/-- Settles O23: the buffer an RXEVAL leaves is at rest. -/
theorem rxevalIsIdempotent : Obligations.RxevalIsIdempotent := by
  unfold Obligations.RxevalIsIdempotent
  intro s t u ht hu
  have hrest : atRest u.rxbuf := hu ▸ atRest_of_exec_rxeval ht
  rw [exec_rxeval, rxEval_of_atRest hrest]
  rfl

/-- Settles O27: RXEVAL's records and what it forwards of them, within the frame of the loop. -/
theorem rxevalForwardsExactlyTheOkFrames : Obligations.RxevalForwardsExactlyTheOkFrames := by
  unfold Obligations.RxevalForwardsExactlyTheOkFrames
  intro s
  obtain ⟨rs, hfro, -, htlm⟩ := rxEval_records s
  obtain ⟨m, st, rs', Fs, hframe⟩ := rxLoop_frame (rxIterations s) s
  refine ⟨_, rs, exec_rxeval s, hfro, htlm, ?_⟩
  rw [rxEval, hframe]
  rfl

/-- Settles O25: after the frame is reported, the garbage is cleared as too long, or is at rest. -/
theorem resynchronizationAfterAValidFrame : Obligations.ResynchronizationAfterAValidFrame := by
  unfold Obligations.ResynchronizationAfterAValidFrame
  intro s F g hF hs
  obtain ⟨u, hu, rfl, hfro, hst⟩ := rxEval_of_validFrame hF hs
  refine ⟨fun hg hb => ⟨_, exec_rxeval s, ?_⟩, fun hg => ⟨_, exec_rxeval s, ?_⟩⟩
  · have hlong : Config.maxFrame < expectedLen u.rxbuf := by rw [expectedLen, hb]; decide
    rw [hu, rxEval_of_corrupt (syncTransition_of_tooLong hg hlong)]
    exact ⟨rfl, hfro, congrArg (withFlag .toolong) hst⟩
  · rw [hu, rxEval_of_atRest (.inl hg.le)]
    exact ⟨rfl, hfro, hst⟩

/-! ### RXPUSH and bursts (R121, R137) -/

theorem wordsB_rxpush : wordsB 0x20#8 .rxpush := by
  intro w hop
  simp [decode, decodeWord, hop, formatB]

theorem exec_rxpush {s : State} (h : s.rxbuf.length < s.params.rxbufCap) (b : Byte) :
    exec (.rxpush b) s = .next { s with rxbuf := s.rxbuf ++ [b], resp := s.resp ++ [0x0000#16] } :=
  (Effect.rxpush h).exec_eq

/-- Settles O17: the word is of format B, and the command appends its byte and answers. -/
theorem rxpushAppendsTheByte : Obligations.RxpushAppendsTheByte :=
  ⟨wordsB_rxpush, fun b _ h => exec_rxpush h b⟩

/-- RXPUSH of bytes that all have room holds them in order, with one response OK for each. -/
theorem execAll_rxpush {s : State} {ds : List Byte} (h : s.rxbuf.length + ds.length ≤ s.params.rxbufCap) :
    execAll (ds.map .rxpush) s =
      .next { s with rxbuf := s.rxbuf ++ ds, resp := s.resp ++ List.replicate ds.length 0x0000#16 } := by
  induction ds generalizing s with
  | nil => simp [execAll]
  | cons d ds ih =>
    rw [List.length_cons] at h
    rw [List.map_cons, execAll_cons_of_next (exec_rxpush (by omega) d), ih]
    · simp [List.replicate_succ]
    · simp only [List.length_append, List.length_singleton]; omega

/-- Settles O24: the buffer at rest holds at most 63 bytes, so that the whole burst has room. -/
theorem burstThatFitsNeverOverflows : Obligations.BurstThatFitsNeverOverflows := by
  unfold Obligations.BurstThatFitsNeverOverflows
  intro s₀ s ds h hcap
  have hlen : s.rxbuf.length + ds.length ≤ 63 + ds.length :=
    Nat.add_le_add_right (length_le_of_atRest (atRest_of_exec_rxeval h)) _
  exact ⟨hlen, execAll_rxpush (hlen.trans hcap)⟩

/-! ### An aligned and error-free stream (R136) -/

theorem execAll_append_of_next {is : List Instr} {s t : State} (h : execAll is s = .next t) (js : List Instr) :
    execAll (is ++ js) s = execAll js t := by
  induction is generalizing s with
  | nil => cases h; rfl
  | cons i is ih =>
    obtain ⟨u, hu⟩ := exec_next i s
    rw [execAll_cons_of_next hu] at h
    rw [List.cons_append, execAll_cons_of_next hu, ih h]

/-- A burst that has room is held, and then RXEVAL runs on the buffer with it. -/
theorem execAll_rxburst {s : State} {c : List Byte} (h : s.rxbuf.length + c.length ≤ s.params.rxbufCap) :
    ∃ u, execAll (pseudoExpand (.rxburst c)) s = .next (respond .ok 0x00#8 (rxEval u)) ∧
      u.rxbuf = s.rxbuf ++ c ∧ u.fro = s.fro ∧ u.status = s.status ∧ u.params = s.params :=
  ⟨_, execAll_append_of_next (execAll_rxpush h) [.rxeval], rfl, rfl, rfl, rfl⟩

/-- RXEVAL on the part of a stream of valid frames that has arrived reports the frames it holds whole, in order, and
keeps the beginning of the next. -/
theorem rxEval_of_alignedStream {s : State} {frames : List (List Byte)} {rest : List Byte}
    (hvalid : ∀ F ∈ frames, validFrame F) (hs : s.rxbuf ++ rest = frames.flatten) :
    ∃ whole later, frames = whole ++ later ∧ (rxEval s).rxbuf ++ rest = later.flatten ∧
      (rxEval s).fro = s.fro ++ whole.map okRecord ∧ (rxEval s).status = s.status := by
  induction frames generalizing s with
  | nil =>
    have hnil : s.rxbuf = [] := (List.append_eq_nil_iff.mp hs).1
    rw [rxEval_of_atRest (hnil ▸ atRest_nil)]
    exact ⟨[], [], rfl, hs, by simp, rfl⟩
  | cons F frames ih =>
    obtain ⟨hF, hframes⟩ := List.forall_mem_cons.mp hvalid
    have hbuf : s.rxbuf <+: F ++ frames.flatten := ⟨rest, hs⟩
    have hfront : F <+: F ++ frames.flatten := List.prefix_append _ _
    obtain hlt | hle := Nat.lt_or_ge s.rxbuf.length F.length
    · have hpre : s.rxbuf <+: F := List.prefix_of_prefix_length_le hbuf hfront hlt.le
      rw [rxEval_of_atRest (atRest_of_prefix_of_validFrame hF hpre hlt)]
      exact ⟨[], F :: frames, rfl, hs, by simp, rfl⟩
    · obtain ⟨g, hg⟩ := List.prefix_of_prefix_length_le hfront hbuf hle
      have hrest : g ++ rest = frames.flatten := by
        rw [← hg, List.append_assoc] at hs
        exact List.append_cancel_left hs
      obtain ⟨u, hu, rfl, hufro, hust⟩ := rxEval_of_validFrame hF hg.symm
      obtain ⟨whole, later, rfl, hkept, hfro, hst⟩ := ih hframes hrest
      rw [hu]
      exact ⟨F :: whole, later, rfl, hkept, by simp [hfro, hufro], hst.trans hust⟩

/-- From a buffer at rest that holds the beginning of a stream of valid frames, the bursts that bring the rest of it
leave one FRAME_OK record for each frame. -/
theorem execAll_rxbursts_of_alignedStream {s : State} {frames bursts : List (List Byte)} (hatRest : atRest s.rxbuf)
    (hvalid : ∀ F ∈ frames, validFrame F) (hs : s.rxbuf ++ bursts.flatten = frames.flatten)
    (hcap : ∀ c ∈ bursts, 63 + c.length ≤ s.params.rxbufCap) :
    ∃ t, execAll (bursts.flatMap fun c => pseudoExpand (.rxburst c)) s = .next t ∧
      t.rxbuf = [] ∧ t.fro = s.fro ++ frames.map okRecord ∧ t.status = s.status := by
  induction bursts generalizing s frames with
  | nil =>
    rw [List.flatten_nil, List.append_nil] at hs
    cases frames with
    | nil => exact ⟨s, rfl, hs, by simp, rfl⟩
    | cons F frames =>
      have hready := syncTransition_append_of_validFrame (hvalid F List.mem_cons_self) frames.flatten
      rw [← List.flatten_cons, ← hs, syncTransition_eq_accumulating_iff.mpr hatRest] at hready
      cases hready
  | cons c bursts ih =>
    obtain ⟨hc, hbursts⟩ := List.forall_mem_cons.mp hcap
    have hroom : s.rxbuf.length + c.length ≤ s.params.rxbufCap :=
      (Nat.add_le_add_right (length_le_of_atRest hatRest) _).trans hc
    obtain ⟨u, hburst, hubuf, hufro, hust, huparams⟩ := execAll_rxburst hroom
    rw [List.flatten_cons, ← List.append_assoc, ← hubuf] at hs
    obtain ⟨whole, later, rfl, hkept, hfro, hst⟩ := rxEval_of_alignedStream hvalid hs
    have hlater : ∀ F ∈ later, validFrame F := fun F hF => hvalid F (List.mem_append_right whole hF)
    have hparams : (rxEval u).params = s.params := (rxLoop_params _ u).trans huparams
    obtain ⟨t, ht, hempty, htfro, htst⟩ :=
      ih (s := respond .ok 0x00#8 (rxEval u)) (atRest_rxEval u) hlater hkept (hparams ▸ hbursts)
    refine ⟨t, ?_, hempty, ?_, htst.trans (hst.trans hust)⟩
    · rw [List.flatMap_cons, execAll_append_of_next hburst, ht]
    · rw [htfro, State.respond_fro, hfro, hufro, List.map_append, List.append_assoc]

/-- Settles O26: the empty buffer is at rest and the bursts bring the whole stream. -/
theorem alignedStreamIsReportedForEveryBurstPlacement : Obligations.AlignedStreamIsReportedForEveryBurstPlacement := by
  unfold Obligations.AlignedStreamIsReportedForEveryBurstPlacement
  intro s frames bursts hnil hvalid hflat hcap
  exact execAll_rxbursts_of_alignedStream (hnil ▸ atRest_nil) hvalid (by rw [hnil, List.nil_append, hflat]) hcap

end Sys2Proof.Machine
end

section
/-! Proofs about the channel registers, the value mapping and the packer (`42_packer.md`): what `map_ch` is in natural
numbers, what the inverse reads back, and the commands CHSET and TXPACK. -/

namespace Sys2Proof.Machine

/-! ### CHSET (R150, R151) -/

theorem wordsAB_chset : wordsAB 0x30#8 .chset := by
  intro w hop
  simp [decode, decodeWord, hop, formatAB]

/-- The seven bits stored are the accepted value itself: it is not negative and below 128. -/
theorem chanBits_eq_ofNat_toInt {b : Byte} (hb : stickInRange (signed8 b)) :
    chanBits b = BitVec.ofNat 7 b.toInt.toNat := by
  have hnonneg : 0 ≤ b.toInt := hb.1
  have hnat : b.toInt.toNat = b.toNat := by
    rw [BitVec.toInt_eq_toNat_cond] at hnonneg ⊢
    split at hnonneg <;> omega
  rw [hnat]
  apply BitVec.eq_of_toNat_eq
  simp [chanBits]

theorem setIfInBounds_eq_set {α : Type} {n k : Nat} (xs : Vector α n) (x : α) (hk : k < n) :
    xs.setIfInBounds k x = xs.set k x :=
  Vector.toArray_inj.mp (dif_pos (hk.trans_eq xs.size_toArray.symm))

/-- Settles O28: one outcome of CHSET for each clause, and the value stored is the operand's. -/
theorem chsetWritesOneChannelInRange : Obligations.ChsetWritesOneChannelInRange := by
  unfold Obligations.ChsetWritesOneChannelInRange
  refine ⟨wordsAB_chset, fun a b s => ⟨fun ha => ?_, fun ha hb => ?_, fun ha hlow hhigh => ?_⟩⟩
  · exact (Effect.chsetIndex (Nat.not_le_of_lt ha)).exec_eq
  · have hout : ¬ stickInRange (signed8 b) := fun hin => hb.elim (not_lt_of_ge hin.1) (not_lt_of_ge hin.2)
    exact (Effect.chsetValue ha hout).exec_eq
  · have hin : stickInRange (signed8 b) := ⟨hlow, hhigh⟩
    rw [(Effect.chset (Nat.le_of_lt_succ ha) hin).exec_eq, chanBits_eq_ofNat_toInt hin, setIfInBounds_eq_set _ _ ha]
    rfl

/-! ### The value mapping (R152, R153) -/

/-- The part of the range a value takes is at most the whole of it. -/
theorem stick_mul_div_le {v d : Nat} (hv : v ≤ 100) : v * d / 100 ≤ d :=
  Nat.div_le_of_le_mul (Nat.mul_le_mul_right d hv)

/-- On the stick range of a legal build the 11 bits hold the whole value (R159 (e)). -/
theorem mapCh_toNat {p : Config.Params} {v : ChanVal} (hp : p.legal) (hv : v.toNat ≤ 100) :
    (mapCh p v).toNat = p.rcMin + v.toNat * (p.rcMax - p.rcMin) / 100 := by
  obtain ⟨-, -, -, hrange, hmax, -⟩ := hp
  have hpart := stick_mul_div_le (d := p.rcMax - p.rcMin) hv
  rw [mapCh, BitVec.toNat_ofNat]
  exact Nat.mod_eq_of_lt (by simp only [Config.stickMinimum, Config.stickMaximum, Nat.sub_zero]; omega)

/-- The exact line's floor is taken by the division alone, for `RC_MIN` is an integer. -/
theorem floor_line (m v d : Nat) : ⌊(m : ℚ) + (v : ℚ) * (d : ℚ) / 100⌋ = ((m + v * d / 100 : Nat) : ℤ) := by
  have hdiv : ⌊(v : ℚ) * (d : ℚ) / 100⌋ = ((v * d / 100 : Nat) : ℤ) :=
    mod_cast Rat.floor_natCast_div_natCast (v * d) 100
  rw [Int.floor_natCast_add, hdiv, Nat.cast_add]

/-- Settles O29: the natural-number quotient is the floor of the rational one, and it is at most the range. -/
theorem mapIsTheExactLineTruncated : Obligations.MapIsTheExactLineTruncated := by
  unfold Obligations.MapIsTheExactLineTruncated
  intro p v hp hv
  have hmap := mapCh_toNat hp hv
  have hpart := stick_mul_div_le (d := p.rcMax - p.rcMin) hv
  obtain ⟨-, -, -, hrange, -, -⟩ := hp
  refine ⟨?_, by omega, by omega⟩
  rw [hmap, ← floor_line, Nat.cast_sub hrange, sub_zero, sub_zero]

theorem mapCh_defaults_toNat {v : Nat} (hv : v ≤ 100) :
    (mapCh Config.Params.defaults (BitVec.ofNat 7 v)).toNat = 7 + v * 1969 / 100 := by
  have hval : (BitVec.ofNat 7 v).toNat = v := Nat.mod_eq_of_lt (by omega)
  rw [mapCh_toNat (by decide) (hval.trans_le hv), hval]
  rfl

/-- Settles O30: the steps are those of `v * 1969 / 100`, and at the ends of the stick range the division is exact. -/
theorem mapValuesAtTheDefaults : Obligations.MapValuesAtTheDefaults := by
  unfold Obligations.MapValuesAtTheDefaults
  refine ⟨by decide, fun v hv => ?_, fun p hp => ⟨?_, ?_⟩⟩
  · rw [mapCh_defaults_toNat hv, mapCh_defaults_toNat hv.le]
    omega
  · rw [mapCh_toNat hp (by decide)]
    simp
  · rw [mapCh_toNat hp (by decide)]
    obtain ⟨-, -, -, hrange, -, -⟩ := hp
    show p.rcMin + 100 * (p.rcMax - p.rcMin) / 100 = p.rcMax
    omega

/-! ### The packed payload and its inverse (R154 to R157) -/

/-- The inverse reads field `i` of the number that the payload and the channels share. -/
theorem unpack16_pack16 (ms : List WireVal) (i : Nat) : unpack16 (pack16 ms) i = ms.getD i 0#11 := by
  refine BitVec.eq_of_getLsbD_eq fun j hj => ?_
  have hfield : (11 * i + j) / 11 = i := by omega
  have hbit : (11 * i + j) % 11 = j := by omega
  rw [unpack16, (pack16_spec ms).2, BitVec.getLsbD_ofNat, Nat.testBit_shiftRight, testBit_fieldsNumber (by decide),
    hfield, hbit, decide_eq_true hj, Bool.true_and]

theorem payloadOf_toList {l : List Byte} (hl : l.length = 22) : (payloadOf l).toList = l := by
  simp [payloadOf, ← hl]

/-- Sixteen channels pack to exactly 22 bytes, so that R155's truncate-or-pad clause does nothing. -/
theorem packChannels_toList (s : State) : (packChannels s).toList = pack16 (s.ch.toList.map (mapCh s.params)) :=
  payloadOf_toList (by rw [(pack16_spec _).1, List.length_map, Vector.length_toList])

/-- The payload of any channel registers reads back as their mapped values. -/
theorem unpack16_packChannels (s : State) {i : Nat} (h : i < 16) :
    unpack16 (packChannels s).toList i = mapCh s.params s.ch[i] := by
  rw [packChannels_toList, unpack16_pack16]
  simp [h]

/-- Settles O32: entry `i` is field `i` of the packed list, and a reset state's payload is as any state's. -/
theorem unpackRecoversThePackedValues : Obligations.UnpackRecoversThePackedValues := by
  unfold Obligations.UnpackRecoversThePackedValues
  refine ⟨fun m i h => ?_, fun p i h => unpack16_packChannels (State.resetOf p) h⟩
  rw [unpack16_pack16]
  simp [h]

/-! ### TXPACK (R156) -/

theorem wordsN_txpack : wordsN 0x31#8 .txpack := by
  intro w hop
  simp [decode, decodeWord, hop, formatN]

theorem exec_txpack (s : State) :
    exec .txpack s = .next { s with txp := packChannels s, resp := s.resp ++ [0x0000#16] } := rfl

/-- Settles O33: the command writes the payload, which depends on the channel registers and the parameters alone. -/
theorem txpackWritesThePackedChannels : Obligations.TxpackWritesThePackedChannels := by
  unfold Obligations.TxpackWritesThePackedChannels
  exact ⟨wordsN_txpack, fun s => ⟨_, exec_txpack s, rfl, packChannels_toList s, rfl⟩⟩

end Sys2Proof.Machine
end

section
/-! Proofs about the header/CRC wrapper (`43_wrapper.md`): the frame it builds and its transmit items, the commands
PLDSET, TXWRAP and TXSEND, and a built frame fed back to the synchronizer. -/

namespace Sys2Proof.Machine

/-! ### The frame and its items (R170 to R172, R175) -/

@[simp] theorem encodeRcFrame_length (P : Vector Byte 22) : (encodeRcFrame P).length = 26 := by
  simp [encodeRcFrame]

/-- The last byte of a built frame is the CRC of what the validator covers, the type byte and the payload (R172). -/
theorem validateFrame_encodeRcFrame (P : Vector Byte 22) : validateFrame (encodeRcFrame P) = true :=
  (validateFrame_concat _ _).mpr rfl

theorem validFrame_encodeRcFrame (P : Vector Byte 22) : validFrame (encodeRcFrame P) := by
  have hlen := encodeRcFrame_length P
  exact ⟨hlen ▸ by decide, hlen ▸ by decide, hlen, validateFrame_encodeRcFrame P⟩

/-- The items are the frame's bytes in index order, each marked by whether it stands at the last index. -/
theorem txItems_eq_map_range (F : List Byte) :
    txItems F = (List.range F.length).map fun k => ⟨F.getD k 0#8, k + 1 == F.length⟩ := by
  induction F using txItems.induct with
  | case1 => rfl
  | case2 b => rfl
  | case3 b bs hbs ih =>
    have hmore : 0 ≠ bs.length := (List.length_pos_iff.mpr hbs).ne
    rw [txItems, ih, List.length_cons, List.range_succ_eq_map]
    · simp [hmore]
    · exact hbs

@[simp] theorem txItems_length (F : List Byte) : (txItems F).length = F.length := by
  simp [txItems_eq_map_range]

/-! ### PLDSET (R174) -/

theorem wordsAB_pldset : wordsAB 0x32#8 .pldset := by
  intro w hop
  simp [decode, decodeWord, hop, formatAB]

/-- Settles O34: one outcome of PLDSET for each clause. -/
theorem pldsetWritesOnePayloadRegister : Obligations.PldsetWritesOnePayloadRegister := by
  unfold Obligations.PldsetWritesOnePayloadRegister
  refine ⟨wordsAB_pldset, fun a b s => ⟨fun ha => ?_, fun ha => ?_⟩⟩
  · exact (Effect.pldsetIndex (Nat.not_le_of_lt ha)).exec_eq
  · rw [(Effect.pldset (Nat.le_of_lt_succ ha)).exec_eq, setIfInBounds_eq_set _ _ ha]
    rfl

/-! ### TXWRAP (R175) -/

theorem wordsN_txwrap : wordsN 0x33#8 .txwrap := by
  intro w hop
  simp [decode, decodeWord, hop, formatN]

theorem exec_txwrap (s : State) : exec .txwrap s =
    .next { s with txs := s.txs ++ txItems (encodeRcFrame s.txp), resp := s.resp ++ [0x0000#16] } := rfl

/-- Settles O35: the items of the built frame are numbered 0 to 25. -/
theorem txwrapEmitsTheWrappedPayload : Obligations.TxwrapEmitsTheWrappedPayload := by
  unfold Obligations.TxwrapEmitsTheWrappedPayload
  refine ⟨wordsN_txwrap, fun s F hF => ?_⟩
  obtain rfl : F = encodeRcFrame s.txp := hF
  rw [exec_txwrap, txItems_eq_map_range, encodeRcFrame_length]
  rfl

/-! ### TXSEND (R176) -/

theorem wordsN_txsend : wordsN 0x34#8 .txsend := by
  intro w hop
  simp [decode, decodeWord, hop, formatN]

theorem exec_txsend (s : State) : exec .txsend s =
    .next { s with txp := packChannels s, txs := s.txs ++ txItems (encodeRcFrame (packChannels s)),
                   resp := s.resp ++ [0x0000#16] } := rfl

/-- Settles O36: TXWRAP reads the payload that TXPACK has written; the payload depends on the channel registers and the
parameters alone, which TXSEND does not write, so that a second TXSEND builds the same frame. -/
theorem txsendIsTxpackThenTxwrap : Obligations.TxsendIsTxpackThenTxwrap := by
  unfold Obligations.TxsendIsTxpackThenTxwrap
  refine ⟨wordsN_txsend, fun s => ⟨_, _, _, exec_txpack s, exec_txwrap _, exec_txsend s, rfl, rfl, ?_⟩⟩
  exact ⟨txItems (encodeRcFrame (packChannels s)), _, rfl, by simp, exec_txsend _, rfl⟩

/-! ### Loop-back (R172) -/

/-- RXEVAL on a buffer that holds exactly a valid frame reports it and empties the buffer. -/
theorem exec_rxeval_of_validFrame {F : List Byte} (hF : validFrame F) (s : State) :
    exec .rxeval { s with rxbuf := F } = .next { s with
      rxbuf := [], fro := s.fro ++ [okRecord F],
      tlmIn := if s.params.hasTlmx then s.tlmIn ++ [F] else s.tlmIn, resp := s.resp ++ [0x0000#16] } := by
  have hready : syncTransition F = .frameReady F [] := by
    simpa using syncTransition_append_of_validFrame hF []
  obtain ⟨-, -, -, hcrc⟩ := hF
  rw [exec_rxeval, rxEval_of_frameReady hready, reportFrame_of_valid hcrc, rxEval_of_atRest atRest_nil]
  rfl

/-- Settles O37: a built frame is valid, and its header is the constants'. -/
theorem builtFrameValidatesAndLoopsBack : Obligations.BuiltFrameValidatesAndLoopsBack := by
  unfold Obligations.BuiltFrameValidatesAndLoopsBack
  rintro P F rfl
  exact ⟨rfl, rfl, encodeRcFrame_length P, validateFrame_encodeRcFrame P,
    exec_rxeval_of_validFrame (validFrame_encodeRcFrame P)⟩

end Sys2Proof.Machine
end

section
/-! Proofs about the system commands (`44_system.md`): the bits STCLR clears, the register map RDREG reads, and the
commands NOP and SRST. -/

namespace Sys2Proof.Machine

/-! ### STCLR (R188) -/

theorem wordsB_stclr : wordsB 0x02#8 .stclr := by
  intro w hop
  simp [decode, decodeWord, hop, formatB]

theorem clearable_getLsbD {k : Nat} (hk : k < 8) : clearable.getLsbD k = [0, 1, 2, 4, 5].contains k := by
  revert k
  decide

/-- STCLR bit by bit, the reserved bits among them: `hasFlag_clearFlags` speaks of the six flags alone. -/
theorem clearFlags_getLsbD (b st : Byte) {k : Nat} (hk : k < 8) :
    (clearFlags b st).getLsbD k = (st.getLsbD k && !(b.getLsbD k && [0, 1, 2, 4, 5].contains k)) := by
  rw [clearFlags, BitVec.getLsbD_and, BitVec.getLsbD_not, BitVec.getLsbD_and, clearable_getLsbD hk, decide_eq_true hk,
    Bool.true_and]

theorem exec_stclr (b : Byte) (s : State) : exec (.stclr b) s =
    .next { s with status := clearFlags b s.status, resp := s.resp ++ [0x0000#16] } := rfl

/-- Settles O12: STATUS is masked by the complement of the clearable bits of the mask, which acts on each bit alone. -/
theorem stclrClearsTheClearableFlags : Obligations.StclrClearsTheClearableFlags := by
  unfold Obligations.StclrClearsTheClearableFlags
  exact ⟨wordsB_stclr, fun b s => ⟨_, exec_stclr b s, rfl, fun _ hk => clearFlags_getLsbD b s.status hk⟩⟩

/-! ### SRST (R189) -/

theorem wordsN_srst : wordsN 0x03#8 .srst := by
  intro w hop
  simp [decode, decodeWord, hop, formatN]

theorem exec_srst (s : State) : exec .srst s = .next { s with
    ch := (State.resetOf s.params).ch, txp := (State.resetOf s.params).txp, crcAcc := 0x00#8, rxbuf := [],
    status := 0x00#8, resp := s.resp ++ [0x0000#16] } := rfl

/-- Settles O8: the word is of format N, and the command writes the reset values of R34 and answers. -/
theorem srstResetsTheBlock : Obligations.SrstResetsTheBlock :=
  ⟨wordsN_srst, exec_srst⟩

/-! ### NOP (R185) -/

theorem wordsN_nop : wordsN 0x00#8 .nop := by
  intro w hop
  simp [decode, decodeWord, hop, formatN]

theorem exec_nop (s : State) : exec .nop s = .next { s with resp := s.resp ++ [0x0000#16] } := rfl

/-- Settles O10: the word is of format N, and the command answers and does no more. -/
theorem nopOnlyResponds : Obligations.NopOnlyResponds :=
  ⟨wordsN_nop, exec_nop⟩

/-! ### The register map (R28, R186) -/

/-- A number of 3 or more is none of the three single registers. -/
theorem ne_singleRegister {a : Byte} (ha : 3 ≤ a.toNat) : a ≠ 0x00#8 ∧ a ≠ 0x01#8 ∧ a ≠ 0x02#8 := by
  refine ⟨?_, ?_, ?_⟩ <;> bv_omega

theorem readRegister_channel (s : State) {i : Nat} (hi : i < 16) :
    readRegister (BitVec.ofNat 8 (0x10 + i)) s = some (s.ch[i].zeroExtend 8) := by
  have ha : (BitVec.ofNat 8 (0x10 + i)).toNat = 0x10 + i := Nat.mod_eq_of_lt (by omega)
  obtain ⟨h0, h1, h2⟩ := ne_singleRegister (a := BitVec.ofNat 8 (0x10 + i)) (by omega)
  rw [readRegister, if_neg h0, if_neg h1, if_neg h2, dif_pos (by omega)]
  simp only [ha, Nat.add_sub_cancel_left]

theorem readRegister_payload (s : State) {j : Nat} (hj : j < 22) :
    readRegister (BitVec.ofNat 8 (0x20 + j)) s = some s.txp[j] := by
  have ha : (BitVec.ofNat 8 (0x20 + j)).toNat = 0x20 + j := Nat.mod_eq_of_lt (by omega)
  obtain ⟨h0, h1, h2⟩ := ne_singleRegister (a := BitVec.ofNat 8 (0x20 + j)) (by omega)
  rw [readRegister, if_neg h0, if_neg h1, if_neg h2, dif_neg (by omega), dif_pos (by omega)]
  simp only [ha, Nat.add_sub_cancel_left]

theorem readRegister_reserved (s : State) {a : Byte} (ha : (0x03 ≤ a.toNat ∧ a.toNat ≤ 0x0F) ∨ 0x36 ≤ a.toNat) :
    readRegister a s = none := by
  obtain ⟨h0, h1, h2⟩ := ne_singleRegister (a := a) (by omega)
  rw [readRegister, if_neg h0, if_neg h1, if_neg h2, dif_neg (by omega), dif_neg (by omega)]

/-! ### RDREG (R186) -/

theorem wordsA_rdreg : wordsA 0x01#8 .rdreg := by
  intro w hop
  simp [decode, decodeWord, hop, formatA]

/-- The response OK is its data byte, the code above it being 0x00 (R75, R231). -/
theorem respWord_ok (v : Byte) : respWord .ok v = v.zeroExtend 16 :=
  (BitVec.setWidth_eq_append (x := v) (by decide)).symm

/-- RDREG of a defined number answers its register, widened to the response's data, and changes nothing. -/
theorem exec_rdreg_of_defined {a v : Byte} {s : State} (h : readRegister a s = some v) :
    exec (.rdreg a) s = .next { s with resp := s.resp ++ [v.zeroExtend 16] } := by
  rw [(Effect.rdreg h).exec_eq, ← respWord_ok]
  rfl

theorem exec_rdreg_of_reserved {a : Byte} {s : State} (h : readRegister a s = none) :
    exec (.rdreg a) s = .next { s with status := s.status ||| 0x20#8, resp := s.resp ++ [0x0300#16] } :=
  (Effect.rdregReserved h).exec_eq

/-- The buffer's length as RDREG answers it: at most 255, it loses nothing in the data byte. -/
theorem rxLenRead_zeroExtend (s : State) : (rxLenRead s).zeroExtend 16 = BitVec.ofNat 16 (min s.rxbuf.length 255) := by
  apply BitVec.eq_of_toNat_eq
  simp only [rxLenRead, State.rxLen, BitVec.truncate_eq_setWidth, BitVec.toNat_setWidth, BitVec.toNat_ofNat]
  omega

/-- Settles O11: each clause is the register map at its numbers. A channel is widened by way of the data byte, which
holds all its bits. -/
theorem rdregReadsTheRegisterMap : Obligations.RdregReadsTheRegisterMap := by
  unfold Obligations.RdregReadsTheRegisterMap
  refine ⟨wordsA_rdreg, fun s => ⟨exec_rdreg_of_defined rfl, exec_rdreg_of_defined rfl, ?_, fun i hi => ?_,
    fun j hj => exec_rdreg_of_defined (readRegister_payload s hj),
    fun a ha => exec_rdreg_of_reserved (readRegister_reserved s ha)⟩⟩
  · rw [exec_rdreg_of_defined rfl, rxLenRead_zeroExtend]
  · rw [exec_rdreg_of_defined (readRegister_channel s hi)]
    simp

end Sys2Proof.Machine
end

section
/-! Proofs about the annex unit (`45_telemetry.md` R200 to R211): what `tlm_decode` answers for a type byte, what a frame
that fits its type or falls short of it does, and where the payload stands in the frame. -/

namespace Sys2Proof.Machine

/-! ### What `tlm_decode` answers (R200, R209, R210, R211) -/

theorem tlmDecode_of_unknown {t : Byte} (ht : packetOfTag t = none) (F : List Byte) : tlmDecode t F = none := by
  simp only [tlmDecode, ht]

theorem tlmDecode_of_noRecord {q : Config.PacketType} (hq : packetRecord q = none) (F : List Byte) :
    tlmDecode (packetTag q) F = none := by
  simp only [tlmDecode, packetOfTag_packetTag, hq]

theorem tlmDecode_of_record {q : Config.PacketType} {h : Nat} {r : List Byte → TelemetryRecord}
    (hq : packetRecord q = some (h, r)) (F : List Byte) :
    tlmDecode (packetTag q) F = if longEnough h F then some (r F) else none := by
  simp only [tlmDecode, packetOfTag_packetTag, hq]

/-! ### What a frame does where the unit is present (R200, R211) -/

theorem exec_packetInstr_of_longEnough {q : Config.PacketType} {h : Nat} {r : List Byte → TelemetryRecord} {f : Frame}
    {s : State} (hq : packetRecord q = some (h, r)) (hx : s.params.hasTlmx = true)
    (hl : longEnough h (f.bytes (packetTag q))) :
    exec (packetInstr q f) s = .next (s.addTlm (r (f.bytes (packetTag q)))) :=
  (Effect.delivered (packetOf_packetInstr q f) hq hx hl).exec_eq

theorem exec_packetInstr_of_tooShort {q : Config.PacketType} {h : Nat} {r : List Byte → TelemetryRecord} {f : Frame}
    {s : State} (hq : packetRecord q = some (h, r)) (hx : s.params.hasTlmx = true)
    (hl : ¬ longEnough h (f.bytes (packetTag q))) :
    exec (packetInstr q f) s = .next (s.addTlmRefused (f.bytes (packetTag q))) :=
  (Effect.tooShort (packetOf_packetInstr q f) hq hx hl).exec_eq

/-- An annex step's answer: what `tlm_decode` gives is delivered, and only the mark of refused frames may change
besides. -/
def deliversDecoded (F : List Byte) (s t : State) : Prop :=
  t.tlm = s.tlm ++ (tlmDecode (F.getD 2 0#8) F).toList ∧ t = { s with tlm := t.tlm, tlmRefused := t.tlmRefused }

theorem deliversDecoded_of_none {F : List Byte} (hF : tlmDecode (F.getD 2 0#8) F = none) (s : State) :
    deliversDecoded F s s := by
  refine ⟨?_, rfl⟩
  rw [hF]
  exact (List.append_nil s.tlm).symm

theorem exec_packetInstr_deliversDecoded (q : Config.PacketType) (f : Frame) {s : State}
    (hx : s.params.hasTlmx = true) :
    ∃ t, exec (packetInstr q f) s = .next t ∧ deliversDecoded (f.bytes (packetTag q)) s t := by
  cases hq : packetRecord q with
  | none =>
    refine ⟨s, exec_packetInstr_of_noRecord hq f s, deliversDecoded_of_none ?_ s⟩
    rw [Frame.bytes_type, tlmDecode_of_noRecord hq]
  | some hr =>
    by_cases hl : longEnough hr.1 (f.bytes (packetTag q))
    · refine ⟨_, exec_packetInstr_of_longEnough hq hx hl, ?_, rfl⟩
      rw [Frame.bytes_type, tlmDecode_of_record hq, if_pos hl]
      rfl
    · refine ⟨_, exec_packetInstr_of_tooShort hq hx hl, ?_, rfl⟩
      rw [Frame.bytes_type, tlmDecode_of_record hq, if_neg hl]
      exact (List.append_nil s.tlm).symm

/-! ### The annex step (R200, R210) -/

/-- Four bytes or more with a known type byte decode (R80, R200), so they are a frame of that type. -/
theorem exists_frame_bytes_of_known {F : List Byte} {q : Config.PacketType} (hlen : 4 ≤ F.length)
    (hq : packetOfTag (F.getD 2 0#8) = some q) : ∃ f, F = Frame.bytes (packetTag q) f := by
  have hdec : ∃ i, decodeFrame F = .ok i := by
    match F, hlen with
    | sync :: len :: t :: b :: rest, _ =>
      have ht : packetOfTag t = some q := hq
      simp [decodeFrame, ht]
  obtain ⟨i, hi⟩ := hdec
  obtain ⟨t, f, rfl⟩ := exists_frame_bytes_of_decodeFrame hi
  rw [Frame.bytes_type] at hq
  exact ⟨f, by rw [packetTag_of_packetOfTag hq]⟩

/-- A frame of an unknown type is consumed; a list too short to be a frame is consumed too. -/
theorem stepFrame_of_unknown {F : List Byte} (hF : packetOfTag (F.getD 2 0#8) = none) (s : State) :
    stepFrame F s = .next s := by
  cases hd : decode (.frame F) with
  | error e => exact stepFrame_of_rejected hd s
  | ok i =>
    obtain ⟨t, f, rfl⟩ := exists_frame_bytes_of_decodeFrame hd
    rw [Frame.bytes_type] at hF
    cases hd.symm.trans (decodeFrame_bytes_of_unknown hF f)

theorem stepFrame_deliversDecoded {F : List Byte} (hlen : 4 ≤ F.length) {s : State} (hx : s.params.hasTlmx = true) :
    ∃ t, stepFrame F s = .next t ∧ deliversDecoded F s t := by
  cases hF : packetOfTag (F.getD 2 0#8) with
  | none => exact ⟨s, stepFrame_of_unknown hF s, deliversDecoded_of_none (tlmDecode_of_unknown hF F) s⟩
  | some q =>
    obtain ⟨f, rfl⟩ := exists_frame_bytes_of_known hlen hF
    rw [stepFrame_of_decodes (decodeFrame_bytes_of_known (packetOfTag_packetTag q) f)]
    exact exec_packetInstr_deliversDecoded q f hx

/-- Settles O57: the step runs the oldest frame's packet type, and each outcome of `tlm_decode` is what that type
delivers. -/
theorem annexStepDeliversTheDecodedRecord : Obligations.AnnexStepDeliversTheDecodedRecord := by
  unfold Obligations.AnnexStepDeliversTheDecodedRecord
  intro s F Fs hpor hx hF hlen
  obtain ⟨t, ht, htlm, hframe⟩ := stepFrame_deliversDecoded hlen (s := s.setTlmIn Fs) hx
  exact ⟨t, (step_of_frame hpor hF).trans ht, htlm, hframe⟩

/-- Settles O54: none of the nine types has a record. -/
theorem noActionTypesProduceNoRecord : Obligations.NoActionTypesProduceNoRecord := by
  unfold Obligations.NoActionTypesProduceNoRecord
  intro f s
  refine ⟨rfl, rfl, rfl, rfl, rfl, rfl, rfl, rfl, rfl, fun t ht F => ?_⟩
  simp only [List.mem_cons, List.not_mem_nil, or_false] at ht
  obtain rfl | rfl | rfl | rfl | rfl | rfl | rfl | rfl | rfl := ht
  · exact tlmDecode_of_noRecord (q := .heartbeat) rfl F
  · exact tlmDecode_of_noRecord (q := .videoTransmitter) rfl F
  · exact tlmDecode_of_noRecord (q := .rcChannelsPacked) rfl F
  · exact tlmDecode_of_noRecord (q := .flightMode) rfl F
  · exact tlmDecode_of_noRecord (q := .deviceInfo) rfl F
  · exact tlmDecode_of_noRecord (q := .configRead) rfl F
  · exact tlmDecode_of_noRecord (q := .configWrite) rfl F
  · exact tlmDecode_of_noRecord (q := .radioId) rfl F
  · exact tlmDecode_of_noRecord (q := .command) rfl F

/-- Settles O55: a frame of an unknown type does not decode, so the step only takes it off the input. -/
theorem unknownTypesAreConsumed : Obligations.UnknownTypesAreConsumed := by
  unfold Obligations.UnknownTypesAreConsumed
  refine ⟨fun s F Fs hpor hF ht => ⟨?_, tlmDecode_of_unknown ht F⟩, by decide +kernel⟩
  exact (step_of_frame hpor hF).trans (stepFrame_of_unknown ht _)

/-- Settles O56: a frame below its type's length is refused, and `tlm_decode` gives nothing for it. -/
theorem shortFramesGiveNoRecord : Obligations.ShortFramesGiveNoRecord := by
  unfold Obligations.ShortFramesGiveNoRecord
  refine ⟨fun q h r f s hq hx hlt => ?_, rfl⟩
  have hl : ¬ longEnough h (f.bytes (packetTag q)) := Nat.not_le.mpr hlt
  exact ⟨exec_packetInstr_of_tooShort hq hx hl, (tlmDecode_of_record hq _).trans (if_neg hl)⟩

/-! ### Where the payload stands in the frame (R79, R201)

Payload byte `i` is frame byte `i + 3`, for each of the field accesses. -/

theorem frameByte_bytes {t : Byte} {f : Frame} {i : Nat} (hi : i < f.payload.length) :
    frameByte (f.bytes t) (i + 3) = f.payload.getD i 0#8 := by
  simp [frameByte, Frame.bytes_eq, List.getElem?_append_left hi]

theorem u8_bytes {t : Byte} {f : Frame} {i : Nat} (hi : i < f.payload.length) :
    u8 (f.bytes t) (i + 3) = (f.payload.getD i 0#8).toNat :=
  congrArg BitVec.toNat (frameByte_bytes hi)

theorem s8_bytes {t : Byte} {f : Frame} {i : Nat} (hi : i < f.payload.length) :
    s8 (f.bytes t) (i + 3) = (f.payload.getD i 0#8).toInt :=
  congrArg BitVec.toInt (frameByte_bytes hi)

theorem s16_bytes {t : Byte} {f : Frame} {i : Nat} (hi : i + 1 < f.payload.length) :
    s16 (f.bytes t) (i + 3) = (f.payload.getD i 0#8 ++ f.payload.getD (i + 1) 0#8).toInt := by
  rw [s16, frameByte_bytes (by omega), Nat.add_right_comm, frameByte_bytes hi]

theorem s32_bytes {t : Byte} {f : Frame} {i : Nat} (hi : i + 3 < f.payload.length) :
    s32 (f.bytes t) (i + 3) = (f.payload.getD i 0#8 ++ f.payload.getD (i + 1) 0#8 ++ f.payload.getD (i + 2) 0#8 ++
      f.payload.getD (i + 3) 0#8).toInt := by
  rw [s32, frameByte_bytes (by omega), Nat.add_right_comm i 3 1, frameByte_bytes (by omega), Nat.add_right_comm i 3 2,
    frameByte_bytes (by omega), frameByte_bytes hi]

/-! ### The decoded types (R203 to R208) -/

/-- A frame with payload enough for its type's fields delivers the record read from it (R211: the highest frame index
`h` a type uses is payload index `h - 3`). -/
theorem exec_packetInstr_of_record_eq {q : Config.PacketType} {h : Nat} {r : List Byte → TelemetryRecord} {f : Frame}
    {s : State} {v : TelemetryRecord} (hq : packetRecord q = some (h, r)) (hx : s.params.hasTlmx = true)
    (hl : h ≤ f.payload.length + 2) (hv : r (f.bytes (packetTag q)) = v) :
    exec (packetInstr q f) s = .next { s with tlm := s.tlm ++ [v] } := by
  subst hv
  refine exec_packetInstr_of_longEnough hq hx ?_
  rw [longEnough, Frame.bytes_length]
  omega

/-- Settles O48: the fields of R203 stand at payload bytes 0, 4, 8, 10, 12 and 14. -/
theorem gpsFrameGivesItsRecord : Obligations.GpsFrameGivesItsRecord := by
  unfold Obligations.GpsFrameGivesItsRecord
  refine ⟨fun f s p hp hx hlen => exec_packetInstr_of_record_eq (q := .gps) rfl hx (by omega) ?_, by decide⟩
  simp (disch := omega) only [gpsRecord, s32_bytes, s16_bytes, u8_bytes, hp]

/-- Settles O49: the field of R204 stands at payload byte 0. -/
theorem varioFrameGivesItsRecord : Obligations.VarioFrameGivesItsRecord := by
  unfold Obligations.VarioFrameGivesItsRecord
  refine ⟨fun f s p hp hx hlen => exec_packetInstr_of_record_eq (q := .vario) rfl hx (by omega) ?_, by decide⟩
  simp (disch := omega) only [varioRecord, s16_bytes, hp]

/-- Settles O50: the fields of R205 stand at payload bytes 0, 2 and 4. -/
theorem attitudeFrameGivesItsRecord : Obligations.AttitudeFrameGivesItsRecord := by
  unfold Obligations.AttitudeFrameGivesItsRecord
  refine ⟨fun f s p hp hx hlen => exec_packetInstr_of_record_eq (q := .attitude) rfl hx (by omega) ?_, by decide⟩
  simp (disch := omega) only [attitudeRecord, s16_bytes, hp]

/-- Settles O51: the field of R206 stands at payload byte 0. -/
theorem baroAltFrameGivesItsRecord : Obligations.BaroAltFrameGivesItsRecord := by
  unfold Obligations.BaroAltFrameGivesItsRecord
  refine ⟨fun f s p hp hx hlen => exec_packetInstr_of_record_eq (q := .baroAlt) rfl hx (by omega) ?_, by decide⟩
  simp (disch := omega) only [baroAltRecord, s32_bytes, hp]

/-- Settles O52: the fields of R207 are payload bytes 0 to 3, the third unsigned. -/
theorem linkStatisticsFrameGivesItsRecord : Obligations.LinkStatisticsFrameGivesItsRecord := by
  unfold Obligations.LinkStatisticsFrameGivesItsRecord
  refine ⟨fun f s p hp hx hlen => exec_packetInstr_of_record_eq (q := .linkStatistics) rfl hx (by omega) ?_, by decide⟩
  simp (disch := omega) only [linkStatisticsRecord, s8_bytes, u8_bytes, hp]

/-- The shifts by 16 and 7 are the factors 65536 and 128 (R208; C4). -/
theorem consumedCapacity_eq (F : List Byte) : consumedCapacity F = u8 F 7 * 65536 ||| u8 F 8 * 128 ||| u8 F 9 := by
  rw [consumedCapacity, Nat.shiftLeft_eq, Nat.shiftLeft_eq]

/-- Settles O53: the fields of R208 stand at payload bytes 0, 2, 4 to 6 and 7. -/
theorem batterySensorFrameGivesItsRecord : Obligations.BatterySensorFrameGivesItsRecord := by
  unfold Obligations.BatterySensorFrameGivesItsRecord
  refine ⟨fun f s p hp hx hlen => exec_packetInstr_of_record_eq (q := .batterySensor) rfl hx (by omega) ?_,
    by decide, by decide⟩
  simp (disch := omega) only [batterySensorRecord, s16_bytes, consumedCapacity_eq, u8_bytes, hp]

end Sys2Proof.Machine
end

section
/-! Proofs about the exceptions (`60_exceptions.md` R230 to R237): the words that are no command, what a command that
answers an error code has done, and the overflowed receive buffer. -/

namespace Sys2Proof.Machine

/-! ### A word that is no command (R233) -/

/-- The decoder rejects exactly the words that no row of the opcode table covers (R74). -/
theorem exists_decode_eq_error_iff {w : CmdWord} :
    (∃ e, decode (.word w) = .error e) ↔ ∀ r ∈ opcodeTable, r.covers w = false := by
  obtain ⟨hdecodes_iff, -⟩ := wordsDecodeAsTheTableSays w
  constructor
  · rintro ⟨e, he⟩ r hr
    refine Bool.eq_false_iff.mpr fun hcov => ?_
    obtain ⟨i, hi⟩ := hdecodes_iff.mpr ⟨r, hr, hcov⟩
    cases he.symm.trans hi
  · intro huncovered
    cases hd : decode (.word w) with
    | error e => exact ⟨e, rfl⟩
    | ok i =>
      obtain ⟨r, hr, hcov⟩ := hdecodes_iff.mp ⟨i, hd⟩
      exact absurd hcov (Bool.eq_false_iff.mp (huncovered r hr))

/-- Settles O6: the step meets an uncovered word as one the decoder rejects, and raises E_ILLEGAL; the decoder rejects
the example words. -/
theorem illegalWordOnlySetsIllcmd : Obligations.IllegalWordOnlySetsIllcmd := by
  unfold Obligations.IllegalWordOnlySetsIllcmd
  refine ⟨fun s w ws hpor hF hw huncovered => ?_, fun w hw => exists_decode_eq_error_iff.mp ?_⟩
  · obtain ⟨e, he⟩ := exists_decode_eq_error_iff.mpr huncovered
    exact (step_of_word hpor hF hw).trans (stepWord_of_rejected he _)
  · simp only [List.mem_cons, List.not_mem_nil, or_false] at hw
    obtain rfl | rfl | rfl | rfl := hw <;> exact ⟨_, rfl⟩

/-! ### The overflowed buffer (R235) -/

/-- Settles O18: a full buffer has no room for the byte, and STCLR, the one command other than SRST that clears a flag,
never clears RXOVF. -/
theorem rxpushOverflowIsKeptUntilReset : Obligations.RxpushOverflowIsKeptUntilReset := by
  unfold Obligations.RxpushOverflowIsKeptUntilReset
  refine ⟨fun b s hfull => (Effect.rxpushFull hfull.ge).exec_eq, fun i s hovf hi => ?_⟩
  obtain ⟨t, ht, hkept | ⟨b, -, -, hne⟩⟩ := flagsAreSticky i s .rxovf hi hovf
  · exact ⟨t, ht, hkept⟩
  · exact absurd rfl hne

/-! ### Commands that answer an error (R237) -/

/-- The high byte of a response is the number of its code (R75, R231). -/
theorem respWord_extractLsb'_code (rc : RespCode) (rd : Byte) : (respWord rc rd).extractLsb' 8 8 = respNumber rc :=
  BitVec.extractLsb'_append_eq_left

/-- A command either answers OK or only raises an error, one of the three a command can raise. -/
theorem Effect.answersOk_or_raises {i : Instr} {s t : State} (h : Effect i s t) (hi : packetOf i = none) :
    (∃ v, t.resp = s.resp ++ [respWord .ok v]) ∨
      ∃ rc ∈ [RespCode.eRange, .eOperand, .eRxovf], t = raise rc s := by
  cases h with
  | rdregReserved | rxpushFull | chsetValue | chsetIndex | pldsetIndex => exact .inr ⟨_, by decide, rfl⟩
  | delivered hi' | tooShort hi' | consumed hi' => cases hi'.symm.trans hi
  | rxeval => exact .inl ⟨0x00#8, by simp⟩
  | _ => exact .inl ⟨_, rfl⟩

/-- Settles O39: a response whose code is not OK comes from raising one of three errors, which sets its flag and answers
with data 0x00. -/
theorem errorsChangeOnlyOneFlag : Obligations.ErrorsChangeOnlyOneFlag := by
  unfold Obligations.ErrorsChangeOnlyOneFlag
  intro i s hi
  obtain ⟨t, ht⟩ := exists_effect i s
  obtain ⟨v, hresp⟩ | ⟨rc, hrc, rfl⟩ := ht.answersOk_or_raises hi
  · refine ⟨t, respWord .ok v, ht.exec_eq, hresp, fun hcode => ?_⟩
    exact absurd (respWord_extractLsb'_code .ok v) hcode
  · refine ⟨raise rc s, respWord rc 0x00#8, ht.exec_eq, State.raise_resp rc s, fun _ => ?_⟩
    simp only [List.mem_cons, List.not_mem_nil, or_false] at hrc
    obtain rfl | rfl | rfl := hrc
    · exact ⟨(.range, 0x0100#16), by simp, rfl, rfl⟩
    · exact ⟨(.illcmd, 0x0300#16), by simp, rfl, rfl⟩
    · exact ⟨(.rxovf, 0x0400#16), by simp, rfl, rfl⟩

end Sys2Proof.Machine
end

section
/-! Proofs about power-on reset (`70_reset_and_hazards.md` R260): the state it leaves, and the step that takes it. -/

namespace Sys2Proof.Machine

/-- Settles O9: the step takes the asserted reset, which leaves the reset state of the build with the waiting command
words, and these are none of the state R34 lists. -/
theorem powerOnResetResetsTheBlock : Obligations.PowerOnResetResetsTheBlock := by
  unfold Obligations.PowerOnResetResetsTheBlock
  intro s hpor
  exact ⟨powerOnReset s, step_of_por hpor, rfl, rfl, rfl, rfl, rfl, rfl, rfl, rfl⟩

end Sys2Proof.Machine
end
